-- ==== Sys2Proof/Word.lean ====
section
/-! DEFINITION. The bit vectors of the part: octets and 16-bit words of frames (file 11), the 32-bit
local time (00 section 5.3) and the 32-bit maturity accumulators (R26). Everything else the part
counts (walls, courses, cells, durations, codes) is a natural number or an integer. -/

namespace Sys2Proof

/-- One octet of a frame. -/
abbrev Octet := BitVec 8

/-- Two octets of a frame, most significant first. -/
abbrev Word16 := BitVec 16

/-- Local time: milliseconds modulo 2^32 (R184). -/
abbrev LocalTime := BitVec 32

/-- A maturity accumulator or stamp: quarter-degree-seconds modulo 2^32 (R26). -/
abbrev Accum := BitVec 32

end Sys2Proof
end

