-- ==== Sys2Proof/Config.lean ====
section
/-! DEFINITION. What the part fixes once for all (capacities and codes of the spec), and the free
values: what the spec leaves open, as constants with no body. -/

namespace Sys2Proof

/-- The placement queue holds at most 8 records (R39). -/
def Config.queueCapacity : Nat := 8

/-- The own claim list holds at most two claims (R43, R70). -/
def Config.claimCapacity : Nat := 2

/-- The peer claim table holds at most 48 entries (R77). -/
def Config.peerCapacity : Nat := 48

/-- The urgent queue holds at most 8 records (R103). -/
def Config.urgentCapacity : Nat := 8

/-- The bulk queue holds at most 16 records (R103). -/
def Config.bulkCapacity : Nat := 16

/-- The course map holds at most 1,024 records (R11). -/
def Config.mapCapacity : Nat := 1024

/-- A peer insert is made only while the map holds fewer than 1,022 records (R11). -/
def Config.peerInsertLimit : Nat := 1022

/-- The receive store is a ring of 2,048 octets (R96). -/
def Config.storeCapacity : Nat := 2048

/-- The octets of a status record (R96). -/
def Config.statusOctets : Nat := 4

/-- The line is idle after 24 recessive bit times (R93). -/
def Config.idleBits : Nat := 24

/-- A frame is dropped at its tenth collision (R107). -/
def Config.attemptLimit : Nat := 10

/-- The most entries one LAID notice carries (R13, R113). -/
def Config.laidEntries : Nat := 12

/-- The "set" mark, the maturity that stands for SET and RETIRED (R10). -/
def Config.setMark : Nat := 16777215

/-- The delimiter octet of a site link frame (R185). -/
def Config.delimiter : Octet := 0x96

/-- FREE VALUE (log 10): the n-th random draw of the transmitter. R108 draws it uniformly from a
range that grows with the collisions; the meaning reduces it to that range. -/
opaque Config.backoffDraw : Nat → Nat

/-- FREE VALUE (log 9): the place, in the table of wait reasons of R48, of the reason that a
placement shows when it yields while admission is closed, so that no evaluation records one. -/
opaque Config.yieldReason : Nat → Fin 9

end Sys2Proof
end

