-- ==== Sys2Proof/Syntax.lean ====
section
/-! DEFINITION. The commands of the part: one constructor of `Instr` per row of spec/opcode_table.json,
in the table's order, and the notices that stations exchange (R185). The operands of a request are its
fields as R187 lays them out, at the widths of the frame; the operands of an event are what the outside
alone knows of it (an octet, a sampled level, a converter code, which timer). -/

namespace Sys2Proof

/-- Why the receiver drops a frame that has passed HUNT (R98). -/
inductive DropCause where
  | badLength
  | crcMismatch
  | framing
  | truncated
  | overflow
  deriving DecidableEq, Repr

/-- What puts the part in restart (R183). -/
inductive RestartCause where
  | resetPin
  | supplyCut
  deriving DecidableEq, Repr

/-- The inputs that the end of a restart takes afresh: the first LSTOP sample (R153), the warn
comparison (R182) and the sensor reference (R137). -/
structure RestartInputs where
  lstopLow : Bool
  supplyBelowWarn : Bool
  referencePresent : Bool
  deriving DecidableEq, Repr

/-- The fields of SET-SITE (R187). -/
structure SiteFields where
  station : Octet
  bitRate : Octet
  halfModule : Word16
  courseHeight : Word16
  cellEdge : Word16
  refresh : Word16
  settle : Word16
  deriving DecidableEq, Repr

/-- The fields of SET-WALL (R187). -/
structure WallFields where
  wall : Octet
  bond : Octet
  length : Word16
  top : Octet
  cls : Octet
  x0 : BitVec 32
  y0 : BitVec 32
  z0 : BitVec 32
  direction : Octet
  deriving DecidableEq, Repr

/-- The fields of SET-LIMITS (R187). -/
structure LimitFields where
  gustHaltOn : Word16
  gustHaltOff : Word16
  gustPauseOn : Word16
  gustPauseOff : Word16
  inclineOn : Word16
  inclineOff : Word16
  strainOn : Word16
  strainOff : Word16
  dwell : Octet
  windFilter : Octet
  factor : Word16
  lstopFilter : Octet
  supportLimit : Word16
  lagOn : Word16
  lagOff : Word16
  deriving DecidableEq, Repr

/-- The fields of PLACE (R187). -/
structure PlaceFields where
  tag : Octet
  wall : Octet
  course : Octet
  pos : Word16
  limit : Octet
  cells : List Word16
  deriving DecidableEq, Repr

/-- The commands: requests of the arm controller and events of the part's inputs and timers. -/
inductive Instr where
  /-- TRANSFER_BEGIN (R162): SEL becomes asserted. -/
  | transferBegin
  /-- TRANSFER_END (R163): SEL becomes deasserted; `octets` are the octets shifted in whole since it was
  asserted, and as many were shifted out. -/
  | transferEnd (octets : List Octet)
  /-- SET_SITE (R175, R176). -/
  | setSite (f : SiteFields)
  /-- SET_WALL (R3). -/
  | setWall (f : WallFields)
  /-- SET_CURE (R24, R25): class, datum (signed) and threshold. -/
  | setCure (cls : Octet) (datum : Word16) (threshold : BitVec 32)
  /-- SET_LIMITS (R142). -/
  | setLimits (f : LimitFields)
  /-- START (R177, R178). -/
  | start
  /-- STOP (R180). -/
  | stop
  /-- PLACE (R41). -/
  | place (f : PlaceFields)
  /-- WITHDRAW (R60). -/
  | withdraw (tag : Octet)
  /-- SEATED (R62). -/
  | seated (tag : Octet)
  /-- CLEAR (R63). -/
  | clear (tag : Octet)
  /-- RESUME (R156). -/
  | resume
  /-- SURVEY_REQUEST (R130): the SURVEY request; 255 names all walls. -/
  | surveyRequest (wall : Octet)
  /-- READ_SLOT (R170). -/
  | readSlot (wall : Octet) (course : Octet) (pos : Word16)
  /-- READ_SITE (R171). -/
  | readSite
  /-- FRAME_ARRIVAL (R97): the second CRC octet of a frame ends, and the CRC matches. -/
  | frameArrival (crcLow : Octet)
  /-- FRAME_DROP (R98). -/
  | frameDrop (cause : DropCause)
  /-- NOTICE_TAKE (R115). -/
  | noticeTake
  /-- ARBITER_TAKE (R105). -/
  | arbiterTake
  /-- ATTEMPT_START (R106). -/
  | attemptStart
  /-- COLLISION (R107): on some bit of the octet going out RXD differs from TXD. -/
  | collision
  /-- BACKOFF_END (R108). -/
  | backoffEnd
  /-- SEND_COMPLETION (R109). -/
  | sendCompletion
  /-- CLAIM_ANNOUNCE_QUEUED (R73). -/
  | claimAnnounceQueued
  /-- OWN_ANNOUNCE_QUEUED (R13). -/
  | ownAnnounceQueued
  /-- SURVEY_ANSWER_QUEUED (R127). -/
  | surveyAnswerQueued
  /-- SURVEY_NOTICE_QUEUED (R130). -/
  | surveyNoticeQueued
  /-- SETTLE_EXPIRY (R85). -/
  | settleExpiry
  /-- FIRM_DECISION (R87). -/
  | firmDecision
  /-- REFRESH_DUE (R89) of the own claim of this number. -/
  | refreshDue (claim : Octet)
  /-- LAPSE_POINT (R92) of the own claim of this number. -/
  | lapsePoint (claim : Octet)
  /-- PEER_ENTRY_EXPIRY (R81) of the entry with this key. -/
  | peerEntryExpiry (station : Nat) (claim : Octet)
  /-- SUPPORT_WAIT_EXPIRY (R47). -/
  | supportWaitExpiry
  /-- MOTION_LIMIT_EXPIRY (R58). -/
  | motionLimitExpiry
  /-- LINK_HOLDOFF_END (R50). -/
  | linkHoldoffEnd
  /-- VIEW_DOUBT_EXPIRY (R123). -/
  | viewDoubtExpiry
  /-- SURVEY_WINDOW_CLOSE (R133) of this wall's window. -/
  | surveyWindowClose (wall : Nat)
  /-- LISTEN_TIMER_EXPIRY (R179). -/
  | listenTimerExpiry
  /-- LEAVE_TIMER_EXPIRY (R181). -/
  | leaveTimerExpiry
  /-- LEAVING_END (R181). -/
  | leavingEnd
  /-- CURE_TICK (R29). -/
  | cureTick
  /-- CONVERSION_COMPLETE (R135): the converter's code for the channel in turn. -/
  | conversionComplete (code : BitVec 10)
  /-- SREF_LOST (R137). -/
  | srefLost
  /-- SREF_REGAINED (R137). -/
  | srefRegained
  /-- WIND_RISING_EDGE (R139, R140): WIND reads high on this many consecutive samples. -/
  | windRisingEdge (samples : Nat)
  /-- WIND_WINDOW_END (R141). -/
  | windWindowEnd
  /-- LSTOP_FILTER_CHANGE (R152, R153): LSTOP reads this level on this many consecutive samples. -/
  | lstopFilterChange (low : Bool) (samples : Nat)
  /-- SUPPLY_WARN_CHANGE (R182): the supply crosses the warn level. -/
  | supplyWarnChange (below : Bool)
  /-- RESTART_BEGIN (R183). -/
  | restartBegin (cause : RestartCause)
  /-- POWER_OFF (R182). -/
  | powerOff
  /-- RESTART_END (R183), with the inputs it takes afresh. -/
  | restartEnd (inputs : RestartInputs)
  /-- OCTET_RECEIVED (R95): an octet on RXD, and whether its stop bit is recessive. -/
  | octetReceived (octet : Octet) (stopRecessive : Bool)
  /-- LINE_IDLE (R95). -/
  | lineIdle
  /-- WIND_FALLING_EDGE (R139): WIND reads low on this many consecutive samples. -/
  | windFallingEdge (samples : Nat)
  deriving DecidableEq, Repr

/-- One entry of a LAID notice (R185). -/
structure LaidEntry where
  course : Octet
  pos : Word16
  maturity : BitVec 24
  deriving DecidableEq, Repr

/-- The content of a site link frame after its sender (R185). -/
inductive Notice where
  | claim (number : Octet) (state : Octet) (precedence : Word16) (hold : Word16) (cells : List Word16)
  | release (number : Octet)
  | laid (wall : Octet) (height : Octet) (entries : List LaidEntry)
  | survey (wall : Octet)
  deriving DecidableEq, Repr

end Sys2Proof
end

