-- ==== Sys2Proof/WellFormed.lean ====
section
/-! DEFINITION. When a command is one that the outside can send: its lists fit their frames and its
numbers name something that exists. The meanings are total on every term all the same. -/

namespace Sys2Proof

/-- A PLACE fits a request frame: 8 + 2n octets in at most 96 (R164, R187). -/
def PlaceFields.fits (f : PlaceFields) : Bool := f.cells.length ≤ 44

/-- A command the outside can send. -/
def Instr.wellFormed : Instr → Bool
  | .place f => f.fits
  | .peerEntryExpiry station _ => 1 ≤ station && station ≤ 30
  | .surveyWindowClose wall => wall < 16
  | .windRisingEdge samples => 1 ≤ samples
  | .windFallingEdge samples => 1 ≤ samples
  | .lstopFilterChange _ samples => 1 ≤ samples
  | .transferBegin | .transferEnd _ | .setSite _ | .setWall _ | .setCure _ _ _ | .setLimits _
  | .start | .stop | .withdraw _ | .seated _ | .clear _ | .resume | .surveyRequest _
  | .readSlot _ _ _ | .readSite | .frameArrival _ | .frameDrop _ | .noticeTake | .arbiterTake
  | .attemptStart | .collision | .backoffEnd | .sendCompletion | .claimAnnounceQueued
  | .ownAnnounceQueued | .surveyAnswerQueued | .surveyNoticeQueued | .settleExpiry | .firmDecision
  | .refreshDue _ | .lapsePoint _ | .supportWaitExpiry | .motionLimitExpiry | .linkHoldoffEnd
  | .viewDoubtExpiry | .listenTimerExpiry | .leaveTimerExpiry | .leavingEnd | .cureTick
  | .conversionComplete _ | .srefLost | .srefRegained | .windWindowEnd | .supplyWarnChange _
  | .restartBegin _ | .powerOff | .restartEnd _ | .octetReceived _ _ | .lineIdle => true

/-- A notice whose counts fit its layout and a frame (R94, R185, R116). -/
def Notice.wellFormed : Notice → Bool
  | .claim _ _ _ _ cells => cells.length ≤ 35
  | .release _ => true
  | .laid wall _ entries => wall.toNat < 16 && entries.length ≤ 12
  | .survey wall => wall.toNat < 16 || wall.toNat == 255

end Sys2Proof
end

