-- ==== Sys2Proof/Decode.lean ====
section
/-! DEFINITION. The layouts of file 11 that the part reads: request frames (R187), site link notices
(R185) and the CRC (R186); a decoder total on any octets, and after it an encoder written from the same
tables. The opcode table gives its rows no bits, so no word spells a command (log 18). -/

namespace Sys2Proof

/-! ### Multi-octet numbers, most significant octet first (file 11) -/

/-- Two octets as a number. -/
def word16 (hi lo : Octet) : Word16 := hi ++ lo

/-- Three octets as a number. -/
def word24 (a b c : Octet) : BitVec 24 := a ++ b ++ c

/-- Four octets as a number. -/
def word32 (a b c d : Octet) : BitVec 32 := a ++ b ++ c ++ d

/-- The octets of a 16-bit number. -/
def octets16 (w : Word16) : List Octet := [w.extractLsb' 8 8, w.extractLsb' 0 8]

/-- The octets of a 24-bit number. -/
def octets24 (w : BitVec 24) : List Octet :=
  [w.extractLsb' 16 8, w.extractLsb' 8 8, w.extractLsb' 0 8]

/-- The octets of a 32-bit number. -/
def octets32 (w : BitVec 32) : List Octet :=
  [w.extractLsb' 24 8, w.extractLsb' 16 8, w.extractLsb' 8 8, w.extractLsb' 0 8]

/-- A list of octets read two by two; an odd last octet is left. -/
def words16 : List Octet → List Word16
  | hi :: lo :: rest => word16 hi lo :: words16 rest
  | _ => []

/-- A list of words as octets. -/
def octetsOfWords (ws : List Word16) : List Octet := ws.flatMap octets16

/-! ### Requests of the arm port (R187) -/

/-- The fourteen requests. -/
inductive RequestKind where
  | setSite | setWall | setCure | setLimits | start | stop | place | withdraw | seated | clear
  | resume | survey | readSlot | readSite
  deriving DecidableEq, Repr

/-- The kind octet of a request (R187). -/
def RequestKind.code : RequestKind → Octet
  | .setSite => 0x01
  | .setWall => 0x02
  | .setCure => 0x03
  | .setLimits => 0x04
  | .start => 0x10
  | .stop => 0x11
  | .place => 0x20
  | .withdraw => 0x21
  | .seated => 0x22
  | .clear => 0x23
  | .resume => 0x30
  | .survey => 0x31
  | .readSlot => 0x40
  | .readSite => 0x41

/-- Every request kind. -/
def RequestKind.all : List RequestKind :=
  [.setSite, .setWall, .setCure, .setLimits, .start, .stop, .place, .withdraw, .seated, .clear,
   .resume, .survey, .readSlot, .readSite]

/-- The request with this kind octet, if there is one (R164). -/
def RequestKind.ofCode (o : Octet) : Option RequestKind :=
  RequestKind.all.find? (fun k => k.code == o)

/-- The body of SET-SITE. -/
def decodeSetSite : List Octet → Option Instr
  | [st, br, h1, h0, c1, c0, e1, e0, r1, r0, s1, s0] =>
    some (.setSite
      { station := st, bitRate := br, halfModule := word16 h1 h0, courseHeight := word16 c1 c0,
        cellEdge := word16 e1 e0, refresh := word16 r1 r0, settle := word16 s1 s0 })
  | _ => none

/-- The body of SET-WALL. -/
def decodeSetWall : List Octet → Option Instr
  | [w, bo, l1, l0, tp, cl, x3, x2, x1, x0, y3, y2, y1, y0, z3, z2, z1, z0, dir] =>
    some (.setWall
      { wall := w, bond := bo, length := word16 l1 l0, top := tp, cls := cl,
        x0 := word32 x3 x2 x1 x0, y0 := word32 y3 y2 y1 y0, z0 := word32 z3 z2 z1 z0,
        direction := dir })
  | _ => none

/-- The body of SET-CURE. -/
def decodeSetCure : List Octet → Option Instr
  | [k, d1, d0, t3, t2, t1, t0] => some (.setCure k (word16 d1 d0) (word32 t3 t2 t1 t0))
  | _ => none

/-- The body of SET-LIMITS. -/
def decodeSetLimits : List Octet → Option Instr
  | [a1, a0, b1, b0, c1, c0, d1, d0, e1, e0, f1, f0, g1, g0, h1, h0, dw, wf, k1, k0, lf, s1, s0,
     n1, n0, m1, m0] =>
    some (.setLimits
      { gustHaltOn := word16 a1 a0, gustHaltOff := word16 b1 b0, gustPauseOn := word16 c1 c0,
        gustPauseOff := word16 d1 d0, inclineOn := word16 e1 e0, inclineOff := word16 f1 f0,
        strainOn := word16 g1 g0, strainOff := word16 h1 h0, dwell := dw, windFilter := wf,
        factor := word16 k1 k0, lstopFilter := lf, supportLimit := word16 s1 s0,
        lagOn := word16 n1 n0, lagOff := word16 m1 m0 })
  | _ => none

/-- The body of PLACE; its length must fit the cell count it carries (R164, R187). -/
def decodePlace : List Octet → Option Instr
  | tag :: wall :: course :: p1 :: p0 :: limit :: n :: rest =>
    if rest.length = 2 * n.toNat then
      some (.place
        { tag := tag, wall := wall, course := course, pos := word16 p1 p0, limit := limit,
          cells := words16 rest })
    else none
  | _ => none

/-- A body of one octet. -/
def decodeOctet (make : Octet → Instr) : List Octet → Option Instr
  | [o] => some (make o)
  | _ => none

/-- A request with no body. -/
def decodeBare (i : Instr) : List Octet → Option Instr
  | [] => some i
  | _ => none

/-- The body of READ-SLOT. -/
def decodeReadSlot : List Octet → Option Instr
  | [w, c, p1, p0] => some (.readSlot w c (word16 p1 p0))
  | _ => none

/-- The body of a request of this kind. -/
def decodeBody : RequestKind → List Octet → Option Instr
  | .setSite => decodeSetSite
  | .setWall => decodeSetWall
  | .setCure => decodeSetCure
  | .setLimits => decodeSetLimits
  | .start => decodeBare .start
  | .stop => decodeBare .stop
  | .place => decodePlace
  | .withdraw => decodeOctet .withdraw
  | .seated => decodeOctet .seated
  | .clear => decodeOctet .clear
  | .resume => decodeBare .resume
  | .survey => decodeOctet .surveyRequest
  | .readSlot => decodeReadSlot
  | .readSite => decodeBare .readSite

/-- The request that a kind octet and a body spell; none where the kind is unknown or the length does
not suit it, which R164 answers BAD_VALUE. -/
def decodeRequest : List Octet → Option Instr
  | [] => none
  | kind :: body => (RequestKind.ofCode kind).bind (fun k => decodeBody k body)

/-- The kind of the request a command is, if it is one. -/
def Instr.requestKind : Instr → Option RequestKind
  | .setSite _ => some .setSite
  | .setWall _ => some .setWall
  | .setCure _ _ _ => some .setCure
  | .setLimits _ => some .setLimits
  | .start => some .start
  | .stop => some .stop
  | .place _ => some .place
  | .withdraw _ => some .withdraw
  | .seated _ => some .seated
  | .clear _ => some .clear
  | .resume => some .resume
  | .surveyRequest _ => some .survey
  | .readSlot _ _ _ => some .readSlot
  | .readSite => some .readSite
  | .transferBegin | .transferEnd _ | .frameArrival _ | .frameDrop _ | .noticeTake | .arbiterTake
  | .attemptStart | .collision | .backoffEnd | .sendCompletion | .claimAnnounceQueued
  | .ownAnnounceQueued | .surveyAnswerQueued | .surveyNoticeQueued | .settleExpiry | .firmDecision
  | .refreshDue _ | .lapsePoint _ | .peerEntryExpiry _ _ | .supportWaitExpiry | .motionLimitExpiry
  | .linkHoldoffEnd | .viewDoubtExpiry | .surveyWindowClose _ | .listenTimerExpiry
  | .leaveTimerExpiry | .leavingEnd | .cureTick | .conversionComplete _ | .srefLost | .srefRegained
  | .windRisingEdge _ | .windWindowEnd | .lstopFilterChange _ _ | .supplyWarnChange _
  | .restartBegin _ | .powerOff | .restartEnd _ | .octetReceived _ _ | .lineIdle
  | .windFallingEdge _ => none

/-- The body of a request (R187); empty for a command that is no request. -/
def Instr.requestBody : Instr → List Octet
  | .setSite f =>
    [f.station, f.bitRate] ++ octets16 f.halfModule ++ octets16 f.courseHeight ++ octets16 f.cellEdge
      ++ octets16 f.refresh ++ octets16 f.settle
  | .setWall f =>
    [f.wall, f.bond] ++ octets16 f.length ++ [f.top, f.cls] ++ octets32 f.x0 ++ octets32 f.y0
      ++ octets32 f.z0 ++ [f.direction]
  | .setCure cls datum threshold => [cls] ++ octets16 datum ++ octets32 threshold
  | .setLimits f =>
    octets16 f.gustHaltOn ++ octets16 f.gustHaltOff ++ octets16 f.gustPauseOn
      ++ octets16 f.gustPauseOff ++ octets16 f.inclineOn ++ octets16 f.inclineOff
      ++ octets16 f.strainOn ++ octets16 f.strainOff ++ [f.dwell, f.windFilter] ++ octets16 f.factor
      ++ [f.lstopFilter] ++ octets16 f.supportLimit ++ octets16 f.lagOn ++ octets16 f.lagOff
  | .place f =>
    [f.tag, f.wall, f.course] ++ octets16 f.pos ++ [f.limit, BitVec.ofNat 8 f.cells.length]
      ++ octetsOfWords f.cells
  | .withdraw tag => [tag]
  | .seated tag => [tag]
  | .clear tag => [tag]
  | .surveyRequest wall => [wall]
  | .readSlot wall course pos => [wall, course] ++ octets16 pos
  | .start | .stop | .resume | .readSite
  | .transferBegin | .transferEnd _ | .frameArrival _ | .frameDrop _ | .noticeTake | .arbiterTake
  | .attemptStart | .collision | .backoffEnd | .sendCompletion | .claimAnnounceQueued
  | .ownAnnounceQueued | .surveyAnswerQueued | .surveyNoticeQueued | .settleExpiry | .firmDecision
  | .refreshDue _ | .lapsePoint _ | .peerEntryExpiry _ _ | .supportWaitExpiry | .motionLimitExpiry
  | .linkHoldoffEnd | .viewDoubtExpiry | .surveyWindowClose _ | .listenTimerExpiry
  | .leaveTimerExpiry | .leavingEnd | .cureTick | .conversionComplete _ | .srefLost | .srefRegained
  | .windRisingEdge _ | .windWindowEnd | .lstopFilterChange _ _ | .supplyWarnChange _
  | .restartBegin _ | .powerOff | .restartEnd _ | .octetReceived _ _ | .lineIdle
  | .windFallingEdge _ => []

/-- The kind octet and body of a request. -/
def encodeRequest (i : Instr) : Option (List Octet) :=
  i.requestKind.map (fun k => k.code :: i.requestBody)

/-- The whole request frame: the length octet, the kind octet and the body (R161, R187). -/
def requestFrame (i : Instr) : Option (List Octet) :=
  (encodeRequest i).map (fun p => BitVec.ofNat 8 p.length :: p)

/-! ### Site link notices (R185) -/

/-- The kind octets of the notices. -/
def Notice.kindCode : Notice → Octet
  | .claim .. => 1
  | .release _ => 2
  | .laid .. => 3
  | .survey _ => 4

/-- The entries of a LAID notice, six octets each. -/
def decodeEntries : List Octet → List LaidEntry
  | c :: p1 :: p0 :: a :: b :: d :: rest =>
    { course := c, pos := word16 p1 p0, maturity := word24 a b d } :: decodeEntries rest
  | _ => []

/-- The body of a CLAIM; the length must fit the cell count. -/
def decodeClaim : List Octet → Option Notice
  | number :: state :: p1 :: p0 :: h1 :: h0 :: n :: rest =>
    if rest.length = 2 * n.toNat then
      some (.claim number state (word16 p1 p0) (word16 h1 h0) (words16 rest))
    else none
  | _ => none

/-- The body of a RELEASE. -/
def decodeRelease : List Octet → Option Notice
  | [number] => some (.release number)
  | _ => none

/-- The body of a LAID; the length must fit the entry count, the wall is 0..15 and the count at most 12
(R116, checks 5 and 6). -/
def decodeLaid : List Octet → Option Notice
  | wall :: height :: n :: rest =>
    if rest.length = 6 * n.toNat ∧ wall.toNat < 16 ∧ n.toNat ≤ Config.laidEntries then
      some (.laid wall height (decodeEntries rest))
    else none
  | _ => none

/-- The body of a SURVEY; the wall is 0..15 or 255 (R116, check 7). -/
def decodeSurvey : List Octet → Option Notice
  | [wall] => if wall.toNat < 16 ∨ wall.toNat = 255 then some (.survey wall) else none
  | _ => none

/-- Checks 4 to 7 of R116: the notice a kind octet and a body spell, or none if they are malformed. -/
def decodeNotice (kind : Octet) (body : List Octet) : Option Notice :=
  if kind = 1 then decodeClaim body
  else if kind = 2 then decodeRelease body
  else if kind = 3 then decodeLaid body
  else if kind = 4 then decodeSurvey body
  else none

/-- The octets of one LAID entry. -/
def encodeEntry (e : LaidEntry) : List Octet :=
  e.course :: (octets16 e.pos ++ octets24 e.maturity)

/-- The body of a notice. -/
def Notice.body : Notice → List Octet
  | .claim number state precedence hold cells =>
    [number, state] ++ octets16 precedence ++ octets16 hold ++ [BitVec.ofNat 8 cells.length]
      ++ octetsOfWords cells
  | .release number => [number]
  | .laid wall height entries =>
    [wall, height, BitVec.ofNat 8 entries.length] ++ entries.flatMap encodeEntry
  | .survey wall => [wall]

/-- The header and body of a notice: sender, kind and body (R185). -/
def Notice.payload (sender : Octet) (n : Notice) : List Octet := sender :: n.kindCode :: n.body

/-! ### The CRC (R186) and the whole frame (R94) -/

/-- One shift of the CRC register, generator 0x1021. -/
def crcShift (r : BitVec 16) : BitVec 16 :=
  if r.msb then (r <<< 1) ^^^ 0x1021#16 else r <<< 1

/-- One octet fed into the CRC register, most significant bit first. -/
def crcOctet (r : BitVec 16) (o : Octet) : BitVec 16 :=
  let r := r ^^^ (o ++ 0#8)
  crcShift (crcShift (crcShift (crcShift (crcShift (crcShift (crcShift (crcShift r)))))))

/-- The CRC over a list of octets, from 0xFFFF. -/
def crc (octets : List Octet) : BitVec 16 := octets.foldl crcOctet 0xFFFF#16

/-- The CRC of a frame: over its length octet, header and body (R186). -/
def frameCrc (payload : List Octet) : BitVec 16 :=
  crc (BitVec.ofNat 8 payload.length :: payload)

/-- A whole frame: delimiter, length, header and body, CRC (R94). -/
def frameOctets (payload : List Octet) : List Octet :=
  Config.delimiter :: BitVec.ofNat 8 payload.length :: (payload ++ octets16 (frameCrc payload))

/-! ### Words of the opcode table -/

/-- The command a word spells by the bits of spec/opcode_table.json: its rows give none (log 18). -/
def decodeTableWord (_nbits _w : Nat) : Option Instr := none

end Sys2Proof
end

