-- ==== Sys2Proof/Machine/State.lean ====
section
/-! DEFINITION. The state of the part: everything the spec gives it, as plain data, and the state at the
end of a cold start. One structure per block of 00 section 3.1. -/

namespace Sys2Proof.Machine

/-! ### Time, site state and supply (file 10) -/

/-- The site states (R173). -/
inductive SiteState where
  | unconfigured | configured | listening | online | leaving
  deriving DecidableEq, Repr

/-- The kinds of restart (R183). -/
inductive RestartKind where
  | cold | warm
  deriving DecidableEq, Repr

/-- The rates of the site link (R93). -/
inductive BitRate where
  | kbit125 | kbit250 | kbit500
  deriving DecidableEq, Repr

/-- The site configuration (R174). Lengths in mm, times in ms. -/
structure SiteConfig where
  station : Nat
  bitRate : BitRate
  halfModule : Nat
  courseHeight : Nat
  cellEdge : Nat
  refresh : Nat
  settle : Nat
  deriving DecidableEq, Repr

/-- The site state controller. `config` is present exactly when the site-set mark is set (R174);
`leaveExpired` says that the leave timer has expired in this LEAVING (R181). -/
structure SiteControl where
  state : SiteState
  config : Option SiteConfig
  listenDue : Option LocalTime
  leaveDue : Option LocalTime
  leaveExpired : Bool
  restartKind : RestartKind
  deriving DecidableEq, Repr

/-- What holds the part in restart (R183), and whether it was powered off since the restart began. -/
structure RestartHold where
  resetLow : Bool
  supplyCut : Bool
  poweredOff : Bool
  deriving DecidableEq, Repr

/-- The supply monitor (R182): the warn comparison, and the restart in progress if there is one. -/
structure Supply where
  belowWarn : Bool
  hold : Option RestartHold
  deriving DecidableEq, Repr

/-! ### Wall plan, course map and cure unit (files 01, 02) -/

/-- Brick arrangements (01 section 1.1). -/
inductive Bond where
  | running | stack
  deriving DecidableEq, Repr

/-- Grid axes a wall may run along (01 section 1.1). -/
inductive Direction where
  | plusX | minusX | plusY | minusY
  deriving DecidableEq, Repr

/-- A wall definition (01 section 1.1). -/
structure WallDef where
  bond : Bond
  length : Nat
  top : Nat
  cls : Nat
  x0 : Int
  y0 : Int
  z0 : Int
  direction : Direction
  deriving DecidableEq, Repr

/-- An open survey window (R132). -/
structure SurveyWindow where
  due : LocalTime
  dropMark : Bool
  deriving DecidableEq, Repr

/-- Survey answer states (R125). -/
inductive AnswerState where
  | idle | waiting | queued | answering
  deriving DecidableEq, Repr

/-- One place of the wall plan with its per-wall state (R3, R13, R18, R19, R125, R132). -/
structure WallPlace where
  definition : Option WallDef
  solidHeight : Nat
  gap : Bool
  heightOwed : Bool
  window : Option SurveyWindow
  answer : AnswerState
  again : Bool
  deriving DecidableEq, Repr

/-- A slot (00 section 5.4). -/
structure Slot where
  wall : Nat
  course : Nat
  pos : Nat
  deriving DecidableEq, Repr

/-- The state of a slot record, with the G stamp that only a WET record has (R9). -/
inductive Adhesive where
  | wet (stamp : Accum)
  | set
  deriving DecidableEq, Repr

/-- A slot record (R9). `owed` is the announce owed mark, set only on own records. -/
structure SlotRecord where
  slot : Slot
  state : Adhesive
  laidBy : Nat
  own : Bool
  owed : Bool
  deriving DecidableEq, Repr

/-- What other blocks read a slot as (R10); `vacant` is the state OPEN. -/
inductive SlotState where
  | vacant | wet | set | retired
  deriving DecidableEq, Repr

/-- The latest DOUBLE_LAY fault (R12, R17). -/
structure DoubleLay where
  slot : Slot
  peer : Option Nat
  deriving DecidableEq, Repr

/-- The course map: its records in key order, and the fault record (R11, R17). -/
structure CourseMap where
  records : List SlotRecord
  fault : Option DoubleLay
  deriving DecidableEq, Repr

/-- The values of one cure class (R23). -/
structure CureClass where
  datum : Int
  threshold : Nat
  configured : Bool
  accum : Accum
  deriving DecidableEq, Repr

/-- The cure unit (R23, R28, R30). -/
structure CureUnit where
  classes : List CureClass
  tickDue : Option LocalTime
  held : Bool
  deriving DecidableEq, Repr

/-! ### Placements and claims (files 03, 04) -/

/-- Placement states (R38). -/
inductive PlacementState where
  | queued | waitSupport | waitCells | announcing | tentative | firm | seated | done | withdrawn
  | failed
  deriving DecidableEq, Repr

/-- Wait reasons (R48). -/
inductive WaitReason where
  | notOnline | notCalm | stopped | viewLag | viewDoubt | mapFull | cellsHeld | linkFail | linkBusy
  deriving DecidableEq, Repr

/-- Failure reasons (R38). -/
inductive FailReason where
  | slotTaken | supportTimeout | viewGap | abandoned | left
  deriving DecidableEq, Repr

/-- The reason field of a placement (R38). -/
inductive Reason where
  | wait (r : WaitReason)
  | fail (r : FailReason)
  deriving DecidableEq, Repr

/-- The motion limit timer (R58, R59): its due time while it runs, its remaining milliseconds while
ARMSTOP suspends it. -/
inductive MotionTimer where
  | stopped
  | running (due : LocalTime)
  | held (remaining : Nat)
  deriving DecidableEq, Repr

/-- A placement record (R38) with its timers (R47, R50, R58). `limit` is the motion limit in s. -/
structure Placement where
  tag : Octet
  target : Slot
  cells : List Nat
  limit : Nat
  state : PlacementState
  reason : Option Reason
  yields : Nat
  blocking : Option Nat
  missing : Option Slot
  overrun : Bool
  reportOwed : Bool
  supportDue : Option LocalTime
  motion : MotionTimer
  holdoff : Option LocalTime
  deriving DecidableEq, Repr

/-- The admission controller: the placement queue, oldest first, and the support-wait limit in s
(R39, R47). -/
structure Admission where
  queue : List Placement
  supportLimit : Nat
  deriving DecidableEq, Repr

/-- Claim states (R70, R77). -/
inductive ClaimState where
  | tentative | firm | seated
  deriving DecidableEq, Repr

/-- The announce field of an own claim (R73): NONE, OWED or QUEUED. -/
inductive Announce where
  | nothing | owed | queued
  deriving DecidableEq, Repr

/-- Where the FIRM decision of a claim stands: its settle expiry has not been taken, it waits for the
frame at a store position to be finished (R86), or that frame is finished and the decision is due. -/
inductive Decision where
  | notDue
  | waitingFor (position : Nat)
  | due
  deriving DecidableEq, Repr

/-- An own claim (R70). Horizon, refresh due and lapse point are computed from `lastSend`;
`refreshTaken` is the model's mark that the reached refresh due time has been acted on (log 21). -/
structure OwnClaim where
  number : Octet
  tag : Octet
  state : ClaimState
  cells : List Nat
  precedence : Nat
  lastSend : Option LocalTime
  refreshTaken : Bool
  settleDue : Option LocalTime
  decision : Decision
  announce : Announce
  abandoned : Bool
  lapsed : Bool
  deriving DecidableEq, Repr

/-- An entry of the peer claim table (R77). -/
structure PeerEntry where
  station : Nat
  number : Octet
  state : ClaimState
  precedence : Nat
  cells : List Nat
  expiry : LocalTime
  deriving DecidableEq, Repr

/-- The claim unit: own claims, older first; the claim counter; peer entries in insertion order
(R70, R71, R77). -/
structure ClaimUnit where
  own : List OwnClaim
  counter : Octet
  peers : List PeerEntry
  deriving DecidableEq, Repr

/-! ### Site link (file 05) -/

/-- Which walls a SURVEY names (R130). -/
inductive WallSelect where
  | one (wall : Nat)
  | all
  deriving DecidableEq, Repr

/-- A record of the urgent queue (R103). -/
inductive UrgentRecord where
  | claim (number : Octet)
  | release (number : Octet)
  deriving DecidableEq, Repr

/-- A record of the bulk queue (R103). A survey answer holds the key of the last record it has carried
(R113); the wall value of a SURVEY stands in the pending notice (R130). -/
inductive BulkRecord where
  | ownAnnounce (wall : Nat)
  | answer (wall : Nat) (cursor : Option Slot)
  | survey
  deriving DecidableEq, Repr

/-- The record a current frame was built from, with what its outcome needs: whether CLEAR has deleted
its claim (R76), the slots of the own records it carries (R14) and the last slot it carries (R113). -/
inductive FrameSource where
  | claim (number : Octet) (gone : Bool)
  | release (number : Octet)
  | ownAnnounce (wall : Nat) (own : List Slot)
  | answer (wall : Nat) (own : List Slot) (last : Option Slot)
  | survey (select : WallSelect)
  deriving DecidableEq, Repr

/-- Where the current frame stands: waiting for idle, in a backoff of r slots, or being sent with TXEN
asserted (R106 to R108). -/
inductive SendPhase where
  | waiting
  | backoff (slots : Nat)
  | sending
  deriving DecidableEq, Repr

/-- The current frame (R105). `sent` counts the octets of its attempt that have gone out without a
mismatch (R106); `lastAttempt` says that no retry follows a collision (R114, R181). -/
structure CurrentFrame where
  source : FrameSource
  octets : List Octet
  sent : Nat
  collisions : Nat
  phase : SendPhase
  lastAttempt : Bool
  deriving DecidableEq, Repr

/-- Send-fail kinds (R111). -/
inductive SendFail where
  | claim | release | laid | answer | survey
  deriving DecidableEq, Repr

/-- The link transmitter (R103, R105, R111). -/
structure Transmitter where
  urgent : List UrgentRecord
  bulk : List BulkRecord
  current : Option CurrentFrame
  lastFail : Option SendFail
  deriving DecidableEq, Repr

/-- The frame being received in BODY or CHECK: its length octet, the header and body octets written so
far, and whether TXEN has been asserted since its delimiter (R99). -/
structure OpenFrame where
  length : Octet
  octets : List Octet
  echo : Bool
  deriving DecidableEq, Repr

/-- The receiver's states (R93, R95), each with the frame it is receiving. -/
inductive RxPhase where
  | inactive
  | gapWait
  | hunt
  | length (echo : Bool)
  | body (f : OpenFrame)
  | check (f : OpenFrame) (first : Option Octet)
  deriving DecidableEq, Repr

/-- A complete frame in the receive store: the echo mark and arrival time of its status record, and its
header and body (R96). Its length field is the number of its octets; its error mark is clear. -/
structure StoredFrame where
  echo : Bool
  arrival : BitVec 16
  octets : List Octet
  deriving DecidableEq, Repr

/-- The link receiver and the receive store (R95, R96, R101). -/
structure Receiver where
  phase : RxPhase
  idleCount : Nat
  readPos : Nat
  frames : List StoredFrame
  lagOn : Nat
  lagOff : Nat
  lag : Bool
  deriving DecidableEq, Repr

/-! ### Notice processor and survey responder (file 06) -/

/-- The pending SURVEY notice, and whether its record stands in the bulk queue (R130). -/
structure PendingSurvey where
  select : WallSelect
  queued : Bool
  deriving DecidableEq, Repr

/-- The notice processor and the survey responder (R115, R123, R125, R130). View doubt is on exactly
when its due time is present. -/
structure NoticeUnit where
  processing : Option Nat
  doubtDue : Option LocalTime
  waitingWalls : List Nat
  survey : Option PendingSurvey
  deriving DecidableEq, Repr

/-! ### Stability monitor and stop controller (files 07, 08) -/

/-- A ring of four samples, oldest first; an invalid entry is absent (R135). -/
structure Ring where
  a : Option Nat
  b : Option Nat
  c : Option Nat
  d : Option Nat
  deriving DecidableEq, Repr

/-- Stability states (R143). -/
inductive Stability where
  | calm | paused | halted
  deriving DecidableEq, Repr

/-- The values of R142: levels in dm/s and codes, dwell in s, filter time in ms. -/
structure Limits where
  gustHaltOn : Nat
  gustHaltOff : Nat
  gustPauseOn : Nat
  gustPauseOff : Nat
  inclineOn : Nat
  inclineOff : Nat
  strainOn : Nat
  strainOff : Nat
  dwell : Nat
  windFilter : Nat
  factor : Nat
  deriving DecidableEq, Repr

/-- The stability monitor. `scan` is the channel converted next, absent while the scan is stopped;
`windLevel` is the filtered WIND level, high or low, absent before the first sample. -/
structure Monitor where
  reference : Bool
  scan : Option Nat
  ring0 : Ring
  ring1 : Ring
  ring2 : Ring
  ring3 : Ring
  inclineX : Option Nat
  inclineY : Option Nat
  strain : Option Nat
  ambient : Option Int
  windLevel : Option Bool
  windDiffer : Nat
  windCount : Nat
  windowDue : Option LocalTime
  gusts : List Nat
  state : Stability
  dwellDue : Option LocalTime
  limits : Limits
  deriving DecidableEq, Repr

/-- The stop causes (R151). -/
inductive Cause where
  | stability | claimConflict | claimLapse | stationClash | localStop | supplyLow
  deriving DecidableEq, Repr

/-- The stop cause set: each cause present or absent (R151). -/
structure CauseSet where
  stability : Bool
  claimConflict : Bool
  claimLapse : Bool
  stationClash : Bool
  localStop : Bool
  supplyLow : Bool
  deriving DecidableEq, Repr

/-- The first cause of a stop: a cause, or a restart (R155). -/
inductive FirstCause where
  | cause (c : Cause)
  | restart
  deriving DecidableEq, Repr

/-- The stop controller (R151 to R155). -/
structure StopControl where
  causes : CauseSet
  conflictStation : Option Nat
  latch : Bool
  first : Option FirstCause
  seen : List Cause
  lstopStop : Bool
  lstopDiffer : Nat
  lstopFilter : Nat
  deriving DecidableEq, Repr

/-! ### Arm port (file 09) -/

/-- Answer codes (R169). -/
inductive AnswerCode where
  | ok | badState | badValue | queueFull | dupTag | badSlot | cellsMiss | slotTaken | noSuchTag
  | tooLate | notFirm | armInCells | causesActive
  deriving DecidableEq, Repr

/-- The content of a READ-SLOT answer (R170). -/
structure SlotView where
  state : SlotState
  maturity : Option Nat
  laidBy : Option Nat
  own : Bool
  owed : Bool
  gap : Bool
  solidHeight : Nat
  deriving DecidableEq, Repr

/-- The fields of the site report (R167). -/
structure SiteView where
  state : SiteState
  station : Option Nat
  restartKind : RestartKind
  lag : Bool
  doubt : Bool
  held : Bool
  gaps : List Bool
  fault : Option DoubleLay
  lastFail : Option SendFail
  deriving DecidableEq, Repr

/-- The content of an answer beyond its code (R165). -/
inductive AnswerContent where
  | plain
  | slot (v : SlotView)
  | site (v : SiteView)
  deriving DecidableEq, Repr

/-- An answer (R165): the kind octet of the request, the code, the requests-lost mark, the content. -/
structure Answer where
  kind : Octet
  code : AnswerCode
  lost : Bool
  content : AnswerContent
  deriving DecidableEq, Repr

/-- The item a transfer sends (R162). A placement report names its record by its place in the queue,
which no event moves while the transfer runs, and keeps whether it shows a terminal state (R163). -/
inductive OutItem where
  | null
  | answer
  | stop
  | stability
  | placement (index : Nat) (terminal : Bool)
  | site
  deriving DecidableEq, Repr

/-- A transfer in progress: the item chosen and the frame built for it (R162). -/
structure Transfer where
  item : OutItem
  frame : List Octet
  deriving DecidableEq, Repr

/-- The arm port (R161 to R166). `intake` holds the request being taken; the placement reports' owed
flags stand in their records. -/
structure ArmPort where
  selected : Bool
  transfer : Option Transfer
  intake : Option Instr
  answer : Option Answer
  requestsLost : Bool
  stopOwed : Bool
  stabilityOwed : Bool
  siteOwed : Bool
  deriving DecidableEq, Repr

/-! ### The state -/

/-- The state of the part, with the model's free-value counter and the queue of waiting commands. -/
structure State where
  now : LocalTime
  site : SiteControl
  supply : Supply
  walls : List WallPlace
  map : CourseMap
  cure : CureUnit
  admission : Admission
  claims : ClaimUnit
  tx : Transmitter
  rx : Receiver
  notice : NoticeUnit
  monitor : Monitor
  stop : StopControl
  port : ArmPort
  freeCount : Nat
  pending : List Instr
  deriving DecidableEq, Repr

/-- The reasons a step can fault: none. The spec names no event that stops the part. -/
inductive Fault where
  deriving DecidableEq, Repr

/-- The reasons a step can be refused. -/
inductive Refusal where
  /-- Raised by `exec` for a command that has no meaning yet; safe, since nothing is claimed of it. No
  arm raises it. -/
  | notModelled (mnemonic : String)
  deriving DecidableEq, Repr

/-! ### The state at the end of a cold start -/

/-- An absent place of the wall plan (R5, R21). -/
def WallPlace.absent : WallPlace :=
  { definition := none, solidHeight := 0, gap := false, heightOwed := false, window := none,
    answer := .idle, again := false }

/-- A cure class before any SET-CURE (R23). -/
def CureClass.initial : CureClass :=
  { datum := 0, threshold := 16777215, configured := false, accum := 0 }

/-- A ring with no valid entry (R135). -/
def Ring.invalid : Ring := { a := none, b := none, c := none, d := none }

/-- The values in force until the first accepted SET-LIMITS (R142). -/
def Limits.initial : Limits :=
  { gustHaltOn := 200, gustHaltOff := 160, gustPauseOn := 140, gustPauseOff := 110, inclineOn := 40,
    inclineOff := 30, strainOn := 900, strainOff := 850, dwell := 5, windFilter := 2, factor := 100 }

/-- The empty cause set. -/
def CauseSet.empty : CauseSet :=
  { stability := false, claimConflict := false, claimLapse := false, stationClash := false,
    localStop := false, supplyLow := false }

/-- The part at the end of a cold start: file 10 R183, 01 R21, 02 R37, 03 R67, 04 R82, 05 R114, 06 R134,
07 R150, 08 R160, 09 R172. The inputs taken at that moment (LSTOP high, supply above the warn level,
reference present, SEL deasserted) are a DESIGN CHOICE (log 8). -/
def State.reset : State :=
  { now := 0
    site :=
      { state := .unconfigured, config := none, listenDue := none, leaveDue := none,
        leaveExpired := false, restartKind := .cold }
    supply := { belowWarn := false, hold := none }
    walls := List.replicate 16 WallPlace.absent
    map := { records := [], fault := none }
    cure := { classes := List.replicate 4 CureClass.initial, tickDue := none, held := false }
    admission := { queue := [], supportLimit := 0 }
    claims := { own := [], counter := 0, peers := [] }
    tx := { urgent := [], bulk := [], current := none, lastFail := none }
    rx :=
      { phase := .inactive, idleCount := 0, readPos := 0, frames := [], lagOn := 1536, lagOff := 512,
        lag := false }
    notice := { processing := none, doubtDue := none, waitingWalls := [], survey := none }
    monitor :=
      { reference := true, scan := none, ring0 := .invalid, ring1 := .invalid, ring2 := .invalid,
        ring3 := .invalid, inclineX := none, inclineY := none, strain := none, ambient := none,
        windLevel := none, windDiffer := 0, windCount := 0, windowDue := none, gusts := [],
        state := .halted, dwellDue := none, limits := .initial }
    stop :=
      { causes := { CauseSet.empty with stability := true }, conflictStation := none, latch := true,
        first := some .restart, seen := [.stability], lstopStop := false, lstopDiffer := 0,
        lstopFilter := 10 }
    port :=
      { selected := false, transfer := none, intake := none, answer := none, requestsLost := false,
        stopOwed := true, stabilityOwed := true, siteOwed := true }
    freeCount := 0
    pending := [] }

end Sys2Proof.Machine
end

