-- ==== Sys2Proof/Machine/Operands.lean ====
section
/-! DEFINITION. Operand forms: how local times are compared (R1), how the fields of a request are taken
(R2, R47, R101, R142, R152, R175), and the geometry of walls (R4, R6 to R8). -/

namespace Sys2Proof.Machine

/-! ### Local time (R1) -/

/-- A due time is reached (R1). -/
def reached (now due : LocalTime) : Bool := (now - due).toNat < 2 ^ 31

/-- A due time that may be absent is present and reached. -/
def reachedSome (now : LocalTime) : Option LocalTime → Bool
  | none => false
  | some due => reached now due

/-- The local time so many milliseconds after another. -/
def later (t : LocalTime) (ms : Nat) : LocalTime := t + BitVec.ofNat 32 ms

/-- The milliseconds that remain until a due time, 0 once it is reached. -/
def remaining (now due : LocalTime) : Nat := if reached now due then 0 else (due - now).toNat

/-- The local time `ms` after now. -/
def State.after (s : State) (ms : Nat) : LocalTime := later s.now ms

/-! ### Site values (R174) -/

/-- The site values while the site-set mark is clear: absent, and read by no block that runs (R174,
log 20). -/
def SiteConfig.unset : SiteConfig :=
  { station := 0, bitRate := .kbit125, halfModule := 0, courseHeight := 0, cellEdge := 0,
    refresh := 0, settle := 0 }

/-- The site values in force. -/
def State.cfg (s : State) : SiteConfig := s.site.config.getD SiteConfig.unset

/-- The hold: three refresh intervals (00 section 5.6). -/
def SiteConfig.hold (c : SiteConfig) : Nat := 3 * c.refresh

/-- The part is in restart (R183). -/
def State.inRestart (s : State) : Bool := s.supply.hold.isSome

/-- The blocks that wait for the first SET-SITE are running: no restart, and not UNCONFIGURED. -/
def State.linkActive (s : State) : Bool := !s.inRestart && s.site.state != .unconfigured

/-- The site states in which the station is on the site: LISTENING, ONLINE and LEAVING. -/
def SiteState.onSite : SiteState → Bool
  | .listening | .online | .leaving => true
  | .unconfigured | .configured => false

/-- The site states in which configuration requests are taken (R168). -/
def SiteState.offline : SiteState → Bool
  | .unconfigured | .configured => true
  | .listening | .online | .leaving => false

/-- The site states in which PLACE, STOP and SURVEY are taken (R168). -/
def SiteState.joined : SiteState → Bool
  | .listening | .online => true
  | .unconfigured | .configured | .leaving => false

/-! ### Fields of requests -/

/-- A value clamped to the nearest end of its range (R2). -/
def clamp (lo hi n : Nat) : Nat := max lo (min hi n)

/-- The rate a bit rate code names (R187). -/
def BitRate.ofCode (o : Octet) : Option BitRate :=
  if o = 1 then some .kbit125 else if o = 2 then some .kbit250
  else if o = 3 then some .kbit500 else none

/-- The bond a code names (R187). -/
def Bond.ofCode (o : Octet) : Option Bond :=
  if o = 0 then some .running else if o = 1 then some .stack else none

/-- The direction a code names (R187). -/
def Direction.ofCode (o : Octet) : Option Direction :=
  if o = 0 then some .plusX else if o = 1 then some .minusX
  else if o = 2 then some .plusY else if o = 3 then some .minusY else none

/-- Tr as taken: 0 selects 500 ms, any other value is clamped to 100..2000 (R175). -/
def takenRefresh (n : Nat) : Nat := if n = 0 then 500 else clamp 100 2000 n

/-- Ts as taken: 0 selects 80 ms, any other value is clamped to 20..500 (R175). -/
def takenSettle (n : Nat) : Nat := if n = 0 then 80 else clamp 20 500 n

/-- Check 2 of R175 with Tr and Ts as taken: the site values a SET-SITE carries. -/
def takenConfig (f : SiteFields) : Option SiteConfig :=
  match BitRate.ofCode f.bitRate with
  | none => none
  | some rate =>
    if (1 ≤ f.station.toNat && f.station.toNat ≤ 30)
        && (40 ≤ f.halfModule.toNat && f.halfModule.toNat ≤ 200)
        && (40 ≤ f.courseHeight.toNat && f.courseHeight.toNat ≤ 300)
        && (250 ≤ f.cellEdge.toNat && f.cellEdge.toNat ≤ 4000) then
      some
        { station := f.station.toNat, bitRate := rate, halfModule := f.halfModule.toNat,
          courseHeight := f.courseHeight.toNat, cellEdge := f.cellEdge.toNat,
          refresh := takenRefresh f.refresh.toNat, settle := takenSettle f.settle.toNat }
    else none

/-- An origin coordinate lies in −1,000,000..+1,000,000 (01 section 1.1). -/
def originInRange (x : Int) : Bool := -1000000 ≤ x && x ≤ 1000000

/-- Check 2 of R3: the definition a SET-WALL carries, if every field lies in its range. -/
def takenDefinition (f : WallFields) : Option WallDef :=
  match Bond.ofCode f.bond, Direction.ofCode f.direction with
  | some bond, some direction =>
    if f.wall.toNat < 16 && f.length.toNat % 2 == 0
        && (4 ≤ f.length.toNat && f.length.toNat ≤ 512) && f.top.toNat ≤ 63 && f.cls.toNat ≤ 3
        && originInRange f.x0.toInt && originInRange f.y0.toInt && originInRange f.z0.toInt then
      some
        { bond := bond, length := f.length.toNat, top := f.top.toNat, cls := f.cls.toNat,
          x0 := f.x0.toInt, y0 := f.y0.toInt, z0 := f.z0.toInt, direction := direction }
    else none
  | _, _ => none

/-- The values of R142 as taken, each off level clamped after its on level. -/
def takenLimits (f : LimitFields) : Limits :=
  let gustHaltOn := clamp 1 999 f.gustHaltOn.toNat
  let gustPauseOn := clamp 1 999 f.gustPauseOn.toNat
  let inclineOn := clamp 1 512 f.inclineOn.toNat
  let strainOn := clamp 1 1023 f.strainOn.toNat
  { gustHaltOn := gustHaltOn
    gustHaltOff := clamp 1 gustHaltOn f.gustHaltOff.toNat
    gustPauseOn := gustPauseOn
    gustPauseOff := clamp 1 gustPauseOn f.gustPauseOff.toNat
    inclineOn := inclineOn
    inclineOff := clamp 1 inclineOn f.inclineOff.toNat
    strainOn := strainOn
    strainOff := clamp 1 strainOn f.strainOff.toNat
    dwell := clamp 0 60 f.dwell.toNat
    windFilter := clamp 0 7 f.windFilter.toNat
    factor := clamp 1 1000 f.factor.toNat }

/-- The LSTOP filter time as taken, 1..64 ms (R152). -/
def takenLstop (f : LimitFields) : Nat := clamp 1 64 f.lstopFilter.toNat

/-- The support-wait limit as taken, 0..3600 s (R47). -/
def takenSupport (f : LimitFields) : Nat := clamp 0 3600 f.supportLimit.toNat

/-- The view lag on-threshold as taken, 256..2048 (R101). -/
def takenLagOn (f : LimitFields) : Nat := clamp 256 2048 f.lagOn.toNat

/-- The view lag off-threshold as taken, 0..on − 256 (R101). -/
def takenLagOff (f : LimitFields) : Nat := clamp 0 (takenLagOn f - 256) f.lagOff.toNat

/-- The target slot of a PLACE. -/
def placeTarget (f : PlaceFields) : Slot :=
  { wall := f.wall.toNat, course := f.course.toNat, pos := f.pos.toNat }

/-- The cell list of a PLACE, in the order given. -/
def placeCells (f : PlaceFields) : List Nat := f.cells.map BitVec.toNat

/-! ### Slots and spans (R6, R7) -/

/-- A RUNNING wall's odd courses begin and end with a half brick (R6). -/
def WallDef.staggered (d : WallDef) (course : Nat) : Bool :=
  d.bond == .running && course % 2 == 1

/-- The number of slots of a course (R6). -/
def WallDef.slotCount (d : WallDef) (course : Nat) : Nat :=
  if d.staggered course then d.length / 2 + 1 else d.length / 2

/-- The span [s, e) of a slot, in half-modules (R6). -/
def WallDef.span (d : WallDef) (course pos : Nat) : Nat × Nat :=
  if d.staggered course then
    if pos = 0 then (0, 1)
    else if pos = d.length / 2 then (d.length - 1, d.length)
    else (2 * pos - 1, 2 * pos + 1)
  else (2 * pos, 2 * pos + 2)

/-- A course and position in range for a wall (R6). -/
def WallDef.inRange (d : WallDef) (course pos : Nat) : Bool :=
  course ≤ d.top && pos < d.slotCount course

/-- The positions, in the course beneath, of the support slots of a slot (R7). -/
def WallDef.supports (d : WallDef) (course pos : Nat) : List Nat :=
  if course = 0 then []
  else
    match d.bond with
    | .stack => [pos]
    | .running =>
      if course % 2 == 0 then [pos, pos + 1]
      else if pos = 0 then [0]
      else if pos = d.length / 2 then [d.length / 2 - 1]
      else [pos - 1, pos]

/-! ### Seat points and cells (R4, R8) -/

/-- A point on the grid, in mm. -/
structure Point where
  x : Int
  y : Int
  z : Int
  deriving DecidableEq, Repr

/-- The seat point of a slot, steps 1 to 3 of R8, for site values H and Hc. -/
def WallDef.seatPoint (d : WallDef) (halfModule courseHeight course pos : Nat) : Point :=
  let span := d.span course pos
  let offset : Int := ((span.1 + span.2) * halfModule / 2 : Nat)
  let z : Int := d.z0 + (course * courseHeight + courseHeight / 2 : Nat)
  match d.direction with
  | .plusX => { x := d.x0 + offset, y := d.y0, z := z }
  | .minusX => { x := d.x0 - offset, y := d.y0, z := z }
  | .plusY => { x := d.x0, y := d.y0 + offset, z := z }
  | .minusY => { x := d.x0, y := d.y0 - offset, z := z }

/-- The cell that contains a point, steps 4 and 5 of R8, every division truncating toward zero. -/
def Point.cell (p : Point) (edge : Nat) : Int :=
  (p.z.tdiv edge) * 1024 + (p.y.tdiv edge) * 32 + p.x.tdiv edge

/-- A point lies inside the grid (R4). -/
def Point.inGrid (p : Point) (edge : Nat) : Bool :=
  (0 ≤ p.x && p.x < 32 * edge) && (0 ≤ p.y && p.y < 32 * edge) && (0 ≤ p.z && p.z < 16 * edge)

/-- The seat cell of a slot (R8). -/
def WallDef.seatCell (d : WallDef) (c : SiteConfig) (course pos : Nat) : Nat :=
  ((d.seatPoint c.halfModule c.courseHeight course pos).cell c.cellEdge).toNat

/-- The courses whose first and last slots the grid check tests (R4). -/
def WallDef.testedCourses (d : WallDef) : List Nat :=
  if d.bond == .running && 1 ≤ d.top then [0, 1, d.top] else [0, d.top]

/-- The grid check of R4 under site values H, Hc and E. -/
def WallDef.gridCheck (d : WallDef) (halfModule courseHeight edge : Nat) : Bool :=
  d.testedCourses.all fun c =>
    [0, d.slotCount c - 1].all fun p => (d.seatPoint halfModule courseHeight c p).inGrid edge

end Sys2Proof.Machine
end

