-- ==== Sys2Proof/Machine/Flags.lean ====
section
/-! DEFINITION. Flags: the report owed flags and ATTN (R162, R166), the stop cause set, latch and record
(R151, R154, R155, R159), ARMSTOP and the motion limit timers it suspends (R59), the placement report's
owed flag (R65), and the view lag comparison (R101). -/

namespace Sys2Proof.Machine

/-! ### Reports owed (R159, R148, R167) -/

/-- A stop report is owed (R159). -/
def State.oweStop (s : State) : State := { s with port := { s.port with stopOwed := true } }

/-- A stability report is owed (R148). -/
def State.oweStability (s : State) : State := { s with port := { s.port with stabilityOwed := true } }

/-- A site report is owed (R167). -/
def State.oweSite (s : State) : State := { s with port := { s.port with siteOwed := true } }

/-- A site report is owed when the condition holds. -/
def State.oweSiteIf (s : State) (c : Bool) : State :=
  { s with port := { s.port with siteOwed := s.port.siteOwed || c } }

/-- ATTN is asserted: an answer or a report waits, or the part is in restart (R166). -/
def State.attn (s : State) : Bool :=
  s.inRestart || s.port.answer.isSome || s.port.stopOwed || s.port.stabilityOwed || s.port.siteOwed
    || s.admission.queue.any Placement.reportOwed

/-- The fields of a placement that its report shows, other than the tag (R65). -/
def Placement.shown (p : Placement) :
    PlacementState × Option Reason × Nat × Option Nat × Option Slot × Bool :=
  (p.state, p.reason, p.yields, p.blocking, p.missing, p.overrun)

/-- A changed placement record: its report is owed if a field the report shows has changed (R65). -/
def Placement.changedTo (p q : Placement) : Placement :=
  { q with reportOwed := q.reportOwed || p.shown != q.shown }

/-! ### The stop cause set (R151) -/

/-- A cause is in the set. -/
def CauseSet.has (cs : CauseSet) : Cause → Bool
  | .stability => cs.stability
  | .claimConflict => cs.claimConflict
  | .claimLapse => cs.claimLapse
  | .stationClash => cs.stationClash
  | .localStop => cs.localStop
  | .supplyLow => cs.supplyLow

/-- The set with a cause present or absent. -/
def CauseSet.assign (cs : CauseSet) (c : Cause) (present : Bool) : CauseSet :=
  match c with
  | .stability => { cs with stability := present }
  | .claimConflict => { cs with claimConflict := present }
  | .claimLapse => { cs with claimLapse := present }
  | .stationClash => { cs with stationClash := present }
  | .localStop => { cs with localStop := present }
  | .supplyLow => { cs with supplyLow := present }

/-- The causes in the order of R151's table. -/
def Cause.all : List Cause :=
  [.stability, .claimConflict, .claimLapse, .stationClash, .localStop, .supplyLow]

/-- The causes present, in the order of R151's table. -/
def CauseSet.toList (cs : CauseSet) : List Cause := Cause.all.filter cs.has

/-- The set is empty. -/
def CauseSet.isEmpty (cs : CauseSet) : Bool :=
  !(cs.stability || cs.claimConflict || cs.claimLapse || cs.stationClash || cs.localStop
    || cs.supplyLow)

/-- ARMSTOP is asserted: in restart, or while a cause is present or the latch is set (R154). -/
def State.armstop (s : State) : Bool := s.inRestart || !s.stop.causes.isEmpty || s.stop.latch

/-- Gate 3 of R48: the cause set is empty and the latch is released. -/
def State.stopClear (s : State) : Bool := s.stop.causes.isEmpty && !s.stop.latch

/-! ### Motion limit timers under ARMSTOP (R59) -/

/-- ARMSTOP becomes asserted: a running motion limit timer is held with what remains of it. -/
def MotionTimer.suspend (now : LocalTime) : MotionTimer → MotionTimer
  | .running due => .held (remaining now due)
  | .held ms => .held ms
  | .stopped => .stopped

/-- ARMSTOP becomes released: a held motion limit timer runs on with what remained of it (R59). -/
def MotionTimer.restart (now : LocalTime) : MotionTimer → MotionTimer
  | .held ms => .running (later now ms)
  | .running due => .running due
  | .stopped => .stopped

/-- Every motion limit timer suspended (R59). -/
def State.suspendMotion (s : State) : State :=
  { s with
    admission :=
      { s.admission with
        queue := s.admission.queue.map fun p => { p with motion := p.motion.suspend s.now } } }

/-- The overrun mark is set and the timer stops (R58). -/
def Placement.overran (p : Placement) : Placement := { p with overrun := true, motion := .stopped }

/-- ARMSTOP becomes released: the motion limit timer of a FIRM placement held at 0 ms expires at once,
setting the overrun mark, with its report owed; any other runs on (R58, R59, R65, R158). -/
def Placement.resume (now : LocalTime) (p : Placement) : Placement :=
  if p.state = .firm && p.motion = .held 0 then p.changedTo p.overran
  else { p with motion := p.motion.restart now }

/-- Every motion limit timer running on, or expired (R59, R158). -/
def State.resumeMotion (s : State) : State :=
  { s with
    admission := { s.admission with queue := s.admission.queue.map (Placement.resume s.now) } }

/-! ### Causes joining and leaving (R151, R154, R155, R159) -/

/-- The stop controller after a cause has joined its set: if the latch was released it is set, with
this cause as the first cause; else the cause is added to the causes seen if it is not there (R154,
R155). -/
def StopControl.join (t : StopControl) (c : Cause) : StopControl :=
  { t with
    causes := t.causes.assign c true
    latch := true
    first := if t.latch then t.first else some (.cause c)
    seen := if t.latch then (if t.seen.contains c then t.seen else t.seen ++ [c]) else [c] }

/-- A cause is put into the set; a cause already present changes nothing (R151). The latch being set
suspends the motion limit timers (R59); a stop report is owed (R159). -/
def State.causeJoins (s : State) (c : Cause) : State :=
  if s.stop.causes.has c then s
  else
    let t := ({ s with stop := s.stop.join c } : State).oweStop
    if s.stop.latch then t else t.suspendMotion

/-- A cause is removed from the set; an absent cause changes nothing (R151). The conflict station goes
with CLAIM_CONFLICT; a stop report is owed (R159). -/
def State.causeLeaves (s : State) (c : Cause) : State :=
  if s.stop.causes.has c then
    ({ s with
        stop :=
          { s.stop with
            causes := s.stop.causes.assign c false
            conflictStation := if c = .claimConflict then none else s.stop.conflictStation } }
      : State).oweStop
  else s

/-! ### View lag (R101) -/

/-- View lag after a change of the fill: on above the on-threshold, off below the off-threshold, else
as it was. -/
def judgedLag (on off fill : Nat) (lag : Bool) : Bool :=
  if fill > on then true else if fill < off then false else lag

end Sys2Proof.Machine
end

