-- ==== Sys2Proof/Machine/Ops.lean ====
section
/-! DEFINITION. The named operations shared by the meanings: reading and writing the wall plan, the
course map, the placement queue, the claim lists and the transmit queues; abandoning a claim (R52);
evaluating the head (R44 to R51); re-evaluating conflicts (R83); yields (R53); causes and stability
handed on (R148, R151, R157); view doubt and view lag (R101, R123); the end of LEAVING (R181). -/

namespace Sys2Proof.Machine

/-! ### Wall plan (R3, R5) -/

/-- The place of a wall in the wall plan. -/
def State.wall (s : State) (w : Nat) : WallPlace := s.walls.getD w WallPlace.absent

/-- The state with a wall's place rewritten. -/
def State.mapWall (s : State) (w : Nat) (f : WallPlace → WallPlace) : State :=
  { s with walls := s.walls.modify w f }

/-- The numbers of the places. -/
def wallNumbers : List Nat := List.range 16

/-- The defined walls, ascending. -/
def State.definedWalls (s : State) : List Nat :=
  wallNumbers.filter fun w => (s.wall w).definition.isSome

/-! ### Course map (R9 to R11) -/

/-- Key order of slots: wall, then course, then position (00 section 5.4). -/
def Slot.before (a b : Slot) : Bool :=
  a.wall < b.wall
    || (a.wall == b.wall && (a.course < b.course || (a.course == b.course && a.pos < b.pos)))

/-- The record of a slot. -/
def findRecord (records : List SlotRecord) (slot : Slot) : Option SlotRecord :=
  records.find? fun r => r.slot == slot

/-- A record put at its place in key order, replacing the record of the same slot. -/
def insertRecord (r : SlotRecord) : List SlotRecord → List SlotRecord
  | [] => [r]
  | x :: xs =>
    if x.slot = r.slot then r :: xs
    else if r.slot.before x.slot then r :: x :: xs
    else x :: insertRecord r xs

/-- The record of a slot in the course map. -/
def State.recordAt (s : State) (slot : Slot) : Option SlotRecord := findRecord s.map.records slot

/-- The state with these records in the course map. -/
def State.withRecords (s : State) (records : List SlotRecord) : State :=
  { s with map := { s.map with records := records } }

/-- The state with a record made or replaced. -/
def State.putRecord (s : State) (r : SlotRecord) : State :=
  s.withRecords (insertRecord r s.map.records)

/-- A slot record is SET. -/
def SlotRecord.isSet (r : SlotRecord) : Bool := r.state == .set

/-- What a slot reads as (R10). -/
def State.readSlot (s : State) (slot : Slot) : SlotState :=
  if slot.course < (s.wall slot.wall).solidHeight then .retired
  else
    match s.recordAt slot with
    | none => .vacant
    | some r => match r.state with
      | .wet _ => .wet
      | .set => .set

/-- A slot that reads so is ready as support (R10). -/
def SlotState.ready : SlotState → Bool
  | .set | .retired => true
  | .vacant | .wet => false

/-- The map has own room (R11). -/
def State.ownRoom (s : State) : Bool := s.map.records.length < Config.mapCapacity

/-- The cure class of this number (R23). -/
def State.cureClass (s : State) (k : Nat) : CureClass := s.cure.classes.getD k CureClass.initial

/-- The cure class of a wall (01 section 1.1). -/
def State.wallClass (s : State) (w : Nat) : CureClass :=
  match (s.wall w).definition with
  | some d => s.cureClass d.cls
  | none => CureClass.initial

/-- The maturity a WET record with this stamp reads (R9). -/
def maturity (accum stamp : Accum) : Nat := (accum - stamp).toNat

/-! ### Placement queue (R39, R43) -/

/-- The states of a head: QUEUED, WAIT_SUPPORT and WAIT_CELLS (R43). -/
def PlacementState.waits : PlacementState → Bool
  | .queued | .waitSupport | .waitCells => true
  | .announcing | .tentative | .firm | .seated | .done | .withdrawn | .failed => false

/-- The states of a placement whose claim may still yield: ANNOUNCING and TENTATIVE (R53). -/
def PlacementState.announced : PlacementState → Bool
  | .announcing | .tentative => true
  | .queued | .waitSupport | .waitCells | .firm | .seated | .done | .withdrawn | .failed => false

/-- The terminal states (R39). -/
def PlacementState.terminal : PlacementState → Bool
  | .done | .withdrawn | .failed => true
  | .queued | .waitSupport | .waitCells | .announcing | .tentative | .firm | .seated => false

/-- The states that close admission: ANNOUNCING, TENTATIVE and FIRM (R43). -/
def PlacementState.closes : PlacementState → Bool
  | .announcing | .tentative | .firm => true
  | .queued | .waitSupport | .waitCells | .seated | .done | .withdrawn | .failed => false

/-- The place in the queue of the head (R43). -/
def State.headIndex (s : State) : Option Nat :=
  s.admission.queue.findIdx? fun p => p.state.waits

/-- The place in the queue of the placement in ANNOUNCING or TENTATIVE. -/
def State.announcedIndex (s : State) : Option Nat :=
  s.admission.queue.findIdx? fun p => p.state.announced

/-- Admission is open (R43). -/
def State.admissionOpen (s : State) : Bool :=
  !(s.admission.queue.any fun p => p.state.closes) && s.claims.own.length < Config.claimCapacity

/-- The state with this placement queue. -/
def State.withQueue (s : State) (queue : List Placement) : State :=
  { s with admission := { s.admission with queue := queue } }

/-- A placement record changed, its report owed if what it shows changes (R65). -/
def State.mapPlacement (s : State) (i : Nat) (f : Placement → Placement) : State :=
  s.withQueue (s.admission.queue.modify i fun p => p.changedTo (f p))

/-- The record a request names by tag: the one that is not terminal, else the oldest terminal one
(R40). -/
def State.resolveTag (s : State) (tag : Octet) : Option Nat :=
  match s.admission.queue.findIdx? fun p => p.tag == tag && !p.state.terminal with
  | some i => some i
  | none => s.admission.queue.findIdx? fun p => p.tag == tag

/-- A placement becomes FAILED: its timers, blocking station and missing support slot are removed
(R45, R64). -/
def Placement.fail (p : Placement) (r : FailReason) : Placement :=
  { p with
    state := .failed, reason := some (.fail r), blocking := none, missing := none,
    supportDue := none, motion := .stopped, holdoff := none }

/-- A placement becomes WITHDRAWN (R60). -/
def Placement.withdraw (p : Placement) : Placement :=
  { p with
    state := .withdrawn, reason := none, blocking := none, missing := none, supportDue := none,
    motion := .stopped, holdoff := none }

/-! ### Own claims and the urgent queue (R70 to R73, R103) -/

/-- Two cell lists share a cell (R68). -/
def sharesCell (a b : List Nat) : Bool := a.any b.contains

/-- The own claim of this number. -/
def State.ownClaim (s : State) (n : Octet) : Option OwnClaim :=
  s.claims.own.find? fun c => c.number == n

/-- The own claim that serves a placement: the one with its tag that is not abandoned. -/
def State.claimOf (s : State) (tag : Octet) : Option OwnClaim :=
  s.claims.own.find? fun c => c.tag == tag && !c.abandoned

/-- The state with this own claim list. -/
def State.withOwn (s : State) (own : List OwnClaim) : State :=
  { s with claims := { s.claims with own := own } }

/-- The own claim of this number changed. -/
def State.mapClaim (s : State) (n : Octet) (f : OwnClaim → OwnClaim) : State :=
  s.withOwn (s.claims.own.map fun c => if c.number = n then f c else c)

/-- The own claim of this number deleted. -/
def State.deleteClaim (s : State) (n : Octet) : State :=
  s.withOwn (s.claims.own.filter fun c => c.number != n)

/-- The state with this urgent queue. -/
def State.withUrgent (s : State) (urgent : List UrgentRecord) : State :=
  { s with tx := { s.tx with urgent := urgent } }

/-- The state with this bulk queue. -/
def State.withBulk (s : State) (bulk : List BulkRecord) : State :=
  { s with tx := { s.tx with bulk := bulk } }

/-- The state with this current frame. -/
def State.withCurrent (s : State) (current : Option CurrentFrame) : State :=
  { s with tx := { s.tx with current := current } }

/-- The urgent queue takes a record: it has a free place (R103), and LEAVING's timer has not closed it
(R181). -/
def State.urgentFree (s : State) : Bool :=
  !s.site.leaveExpired && s.tx.urgent.length < Config.urgentCapacity

/-- Gate 9: the urgent queue has a place for a new CLAIM, one beyond those that the OWED announces take
first (R48, R104, log 12). -/
def State.urgentRoom (s : State) : Bool :=
  !s.site.leaveExpired
    && s.tx.urgent.length + s.claims.own.countP (fun c => c.announce == .owed)
      < Config.urgentCapacity

/-- A record joins the tail of the urgent queue. -/
def State.pushUrgent (s : State) (r : UrgentRecord) : State := s.withUrgent (s.tx.urgent ++ [r])

/-- The record of a claim joins the urgent queue, and its announce becomes QUEUED (R73). -/
def State.queueClaim (s : State) (n : Octet) : State :=
  (s.mapClaim n fun c => { c with announce := .queued }).pushUrgent (.claim n)

/-- A free urgent place goes to a claim whose announce is OWED (R73, R104). -/
def State.offerUrgent (s : State) (c : OwnClaim) : State :=
  if c.announce = .owed && s.urgentFree then s.queueClaim c.number else s

/-- The OWED announces take the free urgent places, the older claim's first; each source that comes later
finds what they leave (R104, log 12). -/
def State.serveOwed (s : State) : State := s.claims.own.foldl State.offerUrgent s

/-- A RELEASE is queued behind the OWED announces; one that finds the urgent queue full is not (R52,
R104). -/
def State.queueRelease (s : State) (n : Octet) : State :=
  let t := s.serveOwed
  if t.urgentFree then t.pushUrgent (.release n) else t

/-- An announce of an own claim is requested (R73); one already OWED is served first (R104). -/
def State.requestAnnounce (s : State) (n : Octet) : State :=
  match s.ownClaim n with
  | none => s
  | some c =>
    if c.announce = .nothing then
      let t := s.serveOwed
      if t.urgentFree then t.queueClaim n else t.mapClaim n fun c => { c with announce := .owed }
    else s

/-- The waiting CLAIM records of an own claim leave the urgent queue (R52, R63). -/
def State.removeClaimRecords (s : State) (n : Octet) : State :=
  s.withUrgent (s.tx.urgent.filter fun r => r != .claim n)

/-- Where the CLAIM frame of an own claim stands: not current, current and not being sent, or being
sent with TXEN asserted (R52, R110). -/
inductive FramePlace where
  | none | waiting | sending
  deriving DecidableEq, Repr

/-- The place of a claim's CLAIM frame in the transmitter. -/
def State.claimFrame (s : State) (n : Octet) : FramePlace :=
  match s.tx.current with
  | Option.none => .none
  | some f =>
    if f.source = .claim n false then (if f.phase = .sending then .sending else .waiting) else .none

/-- An abandoned claim is deleted, with a RELEASE queued if a CLAIM of it has been sent (R52). -/
def State.dismissClaim (s : State) (c : OwnClaim) : State :=
  let t := s.deleteClaim c.number
  if c.lastSend.isSome then t.queueRelease c.number else t

/-- A claim is abandoned by its placement (R52): waiting records go; a frame being sent is allowed to
finish, the claim marked abandoned; a frame waiting or in backoff is discarded. -/
def State.abandonClaim (s : State) (c : OwnClaim) : State :=
  let t := s.removeClaimRecords c.number
  match s.claimFrame c.number with
  | .sending =>
    t.mapClaim c.number fun c =>
      { c with abandoned := true, announce := .nothing, decision := .notDue, settleDue := none }
  | .waiting => (t.withCurrent none).dismissClaim c
  | .none => t.dismissClaim c

/-- The claim that serves a tag is abandoned, if there is one. -/
def State.abandonTag (s : State) (tag : Octet) : State :=
  match s.claimOf tag with
  | none => s
  | some c => s.abandonClaim c

/-! ### Blocking peer claims (R49, R84) -/

/-- A peer entry blocks a claim with these cells and this precedence (R49, R84). -/
def PeerEntry.blocks (e : PeerEntry) (cells : List Nat) (precedence : Nat) : Bool :=
  sharesCell cells e.cells && (e.state != .tentative || e.precedence < precedence)

/-- The precedence of a placement's claim (R49, R69). -/
def State.precedenceOf (s : State) (p : Placement) : Nat := p.target.course * 32 + s.cfg.station

/-- The lowest station among the peer entries that block these cells, if any blocks (R49). -/
def State.blockingStation (s : State) (cells : List Nat) (precedence : Nat) : Option Nat :=
  ((s.claims.peers.filter fun e => e.blocks cells precedence).map PeerEntry.station).min?

/-! ### Head evaluation (R44 to R51) -/

/-- What an evaluation of the head finds. -/
inductive Verdict where
  | fail (r : FailReason)
  | support (missing : Slot)
  | wait (r : WaitReason) (blocking : Option Nat)
  | announce
  deriving DecidableEq, Repr

/-- The first support slot of a target that is not ready (R46). -/
def State.missingSupport (s : State) (target : Slot) : Option Slot :=
  match (s.wall target.wall).definition with
  | none => none
  | some d =>
    ((d.supports target.course target.pos).map fun p =>
        ({ wall := target.wall, course := target.course - 1, pos := p } : Slot)).find?
      fun slot => !(s.readSlot slot).ready

/-- The first gate of R48 that does not hold for a head, with the blocking station of gate 7. -/
def State.failedGate (s : State) (p : Placement) : Option (WaitReason × Option Nat) :=
  if s.site.state ≠ .online then some (.notOnline, none)
  else if s.monitor.state ≠ .calm then some (.notCalm, none)
  else if !s.stopClear then some (.stopped, none)
  else if s.rx.lag then some (.viewLag, none)
  else if s.notice.doubtDue.isSome then some (.viewDoubt, none)
  else if !s.ownRoom then some (.mapFull, none)
  else
    match s.blockingStation p.cells (s.precedenceOf p) with
    | some station => some (.cellsHeld, some station)
    | none =>
      if p.holdoff.isSome then some (.linkFail, none)
      else if !s.urgentRoom then some (.linkBusy, none)
      else none

/-- Steps 1 to 4 of the evaluation of a head (R45, R46, R48). -/
def State.judgeHead (s : State) (p : Placement) : Verdict :=
  if s.readSlot p.target ≠ .vacant then .fail .slotTaken
  else if (s.wall p.target.wall).gap then .fail .viewGap
  else
    match s.missingSupport p.target with
    | some slot => .support slot
    | none =>
      match s.failedGate p with
      | some (r, station) => .wait r station
      | none => .announce

/-- The head waits on a support slot; entering WAIT_SUPPORT starts the support-wait timer unless the
limit is 0 (R46, R47), and the link holdoff goes when it leaves WAIT_CELLS (R50). -/
def Placement.waitSupport (p : Placement) (missing : Slot) (due : Option LocalTime) : Placement :=
  { p with
    state := .waitSupport, reason := none, blocking := none, missing := some missing,
    supportDue := if p.state = .waitSupport then p.supportDue else due, holdoff := none }

/-- The head waits on a gate; leaving WAIT_SUPPORT cancels its timer (R47, R48, R49). -/
def Placement.waitCells (p : Placement) (r : WaitReason) (blocking : Option Nat) : Placement :=
  { p with
    state := .waitCells, reason := some (.wait r), blocking := blocking, missing := none,
    supportDue := none }

/-- The head announces (R51); the link holdoff goes when it leaves WAIT_CELLS (R50). -/
def Placement.announce (p : Placement) : Placement :=
  { p with
    state := .announcing, reason := none, blocking := none, missing := none, supportDue := none,
    holdoff := none }

/-- The support-wait due time of a head that enters WAIT_SUPPORT now (R47). -/
def State.supportDue (s : State) : Option LocalTime :=
  if s.admission.supportLimit = 0 then none else some (s.after (s.admission.supportLimit * 1000))

/-- The first number from `n` upward that no claim holds (R71); `k` bounds the search. -/
def freeNumber (held : List Octet) : Nat → Octet → Octet
  | 0, n => n
  | k + 1, n => if held.contains n then freeNumber held k (n + 1) else n

/-- The number of the next own claim (R71). -/
def ClaimUnit.nextNumber (u : ClaimUnit) : Octet :=
  freeNumber (u.own.map OwnClaim.number) u.own.length u.counter

/-- The own claim created for a placement (R70, R72). -/
def newClaim (number : Octet) (p : Placement) (precedence : Nat) : OwnClaim :=
  { number := number, tag := p.tag, state := .tentative, cells := p.cells, precedence := precedence,
    lastSend := none, refreshTaken := false, settleDue := none, decision := .notDue,
    announce := .queued, abandoned := false, lapsed := false }

/-- Step 5, the announce (R51, R72): the claim is created and its CLAIM record queued, behind the records
of OWED announces (R104). -/
def State.announceHead (s : State) (i : Nat) (p : Placement) : State :=
  let number := s.claims.nextNumber
  let u := s.serveOwed
  let t :=
    ({ u with
        claims :=
          { u.claims with
            own := u.claims.own ++ [newClaim number p (s.precedenceOf p)], counter := number + 1 } }
      : State)
  (t.pushUrgent (.claim number)).mapPlacement i Placement.announce

/-- The own claims in FIRM or SEATED that share cells with a TENTATIVE peer entry (R88). -/
def ClaimUnit.contested (u : ClaimUnit) : List Octet :=
  (u.own.filter fun c =>
      c.state != .tentative && !c.abandoned
        && u.peers.any fun e => e.state == .tentative && sharesCell c.cells e.cells).map
    OwnClaim.number

/-- Every contested own claim requests an announce (R88). Where both own claims are contested at one
re-evaluation the older one requests first: R73 and R104 order OWED claims alone: DESIGN CHOICE, unsafe
(log 31). -/
def State.refreshContested (s : State) : State :=
  s.claims.contested.foldl State.requestAnnounce s

/-- Evaluations of the head, one after another while each fails its placement (R45); `k` bounds them by
the queue. -/
def State.evalHeads : Nat → State → State
  | 0, s => s
  | k + 1, s =>
    match s.headIndex with
    | none => s
    | some i =>
      match s.admission.queue[i]? with
      | none => s
      | some p =>
        match s.judgeHead p with
        | .fail r => State.evalHeads k (s.mapPlacement i fun p => p.fail r)
        | .support slot => s.mapPlacement i fun p => p.waitSupport slot s.supportDue
        | .wait r station => s.mapPlacement i fun p => p.waitCells r station
        | .announce => (s.announceHead i p).refreshContested

/-- The admission controller evaluates its head if admission is open (R44). -/
def State.evalHead (s : State) : State :=
  if s.admissionOpen then State.evalHeads s.admission.queue.length s else s

/-! ### Yields and conflict re-evaluation (R53, R83) -/

/-- The wait reason at a place in R48's table. -/
def WaitReason.ofIndex (i : Fin 9) : WaitReason :=
  match i.val with
  | 0 => .notOnline
  | 1 => .notCalm
  | 2 => .stopped
  | 3 => .viewLag
  | 4 => .viewDoubt
  | 5 => .mapFull
  | 6 => .cellsHeld
  | 7 => .linkFail
  | _ => .linkBusy

/-- A placement yields: WAIT_CELLS, its yield count up by one, saturating at 255, its blocking station
absent (R53). The reason is the one the evaluation that follows records; where admission is closed it is a
free value, and may be CELLS_HELD, although R38 gives that reason a blocking station: DESIGN CHOICE
(log 9). -/
def Placement.yield (p : Placement) (r : WaitReason) : Placement :=
  { p with
    state := .waitCells, reason := some (.wait r), blocking := none, missing := none,
    supportDue := none, yields := min 255 (p.yields + 1) }

/-- The placement in ANNOUNCING or TENTATIVE, if any, abandons its claim and yields (R53). -/
def State.yieldAnnounced (s : State) : State :=
  match s.announcedIndex with
  | none => s
  | some i =>
    match s.admission.queue[i]? with
    | none => s
    | some p =>
      let t := (s.abandonTag p.tag).mapPlacement i fun p =>
        p.yield (WaitReason.ofIndex (Config.yieldReason s.freeCount))
      { t with freeCount := s.freeCount + 1 }

/-- Step 1 of R83: the announced placement yields if a peer entry blocks its claim (R84). -/
def State.blockingTest (s : State) : State :=
  match s.announcedIndex.bind fun i => s.admission.queue[i]? with
  | none => s
  | some p =>
    match s.claimOf p.tag with
    | none => s
    | some c => if (s.blockingStation c.cells c.precedence).isSome then s.yieldAnnounced else s

/-- The stations of the FIRM or SEATED peer entries that conflict with an own FIRM or SEATED claim
(R91). -/
def ClaimUnit.conflictStations (u : ClaimUnit) : List Nat :=
  (u.peers.filter fun e =>
      e.state != .tentative
        && u.own.any fun c => c.state != .tentative && !c.abandoned && sharesCell c.cells e.cells).map
    PeerEntry.station

/-- The conflict station handed on while CLAIM_CONFLICT is present; a change owes a stop report (R91,
R151, R159). -/
def State.nameConflict (s : State) (station : Nat) : State :=
  if s.stop.conflictStation = some station then s
  else ({ s with stop := { s.stop with conflictStation := some station } } : State).oweStop

/-- Step 2 of R83, the conflict test (R91): CLAIM_CONFLICT is put in, renamed or removed. A cause that
joins makes the announced placement yield (R53). -/
def State.conflictTest (s : State) : State :=
  match s.claims.conflictStations.min? with
  | none => s.causeLeaves .claimConflict
  | some station =>
    if s.stop.causes.claimConflict then s.nameConflict station
    else ((s.causeJoins .claimConflict).nameConflict station).yieldAnnounced

/-- Conflict re-evaluation after a change to the peer claim table or the own claim list (R83). -/
def State.reevaluate (s : State) : State :=
  s.blockingTest.conflictTest.refreshContested.evalHead

/-- A gate is lost in a way that R53 names: the announced placement yields; otherwise the head is
evaluated (R44). -/
def State.gateLost (s : State) : State :=
  match s.announcedIndex with
  | some _ => s.yieldAnnounced.reevaluate
  | none => s.evalHead

/-- A cause is put into the stop cause set and the change is handed on (R151, R157). -/
def State.addCause (s : State) (c : Cause) : State :=
  if s.stop.causes.has c then s else (s.causeJoins c).gateLost

/-- A cause is removed from the stop cause set and the change is handed on (R151, R157). -/
def State.dropCause (s : State) (c : Cause) : State :=
  if s.stop.causes.has c then (s.causeLeaves c).evalHead else s

/-- CLAIM_LAPSE is in the set exactly while an own claim has its lapsed mark set (R92). -/
def State.judgeLapse (s : State) : State :=
  if s.claims.own.any OwnClaim.lapsed then s.addCause .claimLapse else s.dropCause .claimLapse

/-- After a change of the course map that R22 tells the admission controller: an announced placement
whose target is taken or whose wall has its gap flag set fails and abandons its claim (R55); otherwise
the head is evaluated. -/
def State.mapChanged (s : State) : State :=
  match s.announcedIndex with
  | none => s.evalHead
  | some i =>
    match s.admission.queue[i]? with
    | none => s
    | some p =>
      if s.readSlot p.target ≠ .vacant then
        ((s.abandonTag p.tag).mapPlacement i fun p => p.fail .slotTaken).reevaluate
      else if (s.wall p.target.wall).gap then
        ((s.abandonTag p.tag).mapPlacement i fun p => p.fail .viewGap).reevaluate
      else s

/-! ### View doubt and view lag (R101, R123, R124) -/

/-- View doubt is started: its due time is one hold from now; turning on owes a site report and makes
the announced placement yield (R53, R123, R124). -/
def State.startDoubt (s : State) : State :=
  let t : State := { s with notice := { s.notice with doubtDue := some (s.after s.cfg.hold) } }
  if s.notice.doubtDue.isSome then t else t.oweSite.gateLost

/-- The octets a complete frame takes in the store (R96). -/
def StoredFrame.size (f : StoredFrame) : Nat := Config.statusOctets + f.octets.length

/-- The octets of the frame being received that stand in the store (R96). -/
def RxPhase.written : RxPhase → Nat
  | .inactive | .gapWait | .hunt => 0
  | .length _ => Config.statusOctets
  | .body f => Config.statusOctets + f.octets.length
  | .check f _ => Config.statusOctets + f.octets.length

/-- The fill of the receive store (R96). -/
def Receiver.fill (r : Receiver) : Nat := (r.frames.map StoredFrame.size).sum + r.phase.written

/-- View lag is judged for a fill; a change owes a site report and a head evaluation (R101). -/
def State.judgeLagAt (s : State) (fill : Nat) : State :=
  let lag := judgedLag s.rx.lagOn s.rx.lagOff fill s.rx.lag
  if lag = s.rx.lag then s
  else ({ s with rx := { s.rx with lag := lag } } : State).oweSite.evalHead

/-- View lag is judged for the fill as it stands (R101). -/
def State.judgeLag (s : State) : State := s.judgeLagAt s.rx.fill

/-! ### Stability state (R148) -/

/-- The stability state written, with a stability report owed (R148). -/
def State.writeStability (s : State) (new : Stability) : State :=
  ({ s with monitor := { s.monitor with state := new } } : State).oweStability

/-- STABILITY is present exactly in HALTED (R148, R151). -/
def State.stabilityCause (s : State) (new : Stability) : State :=
  if new = .halted then s.causeJoins .stability else s.causeLeaves .stability

/-- The stability state becomes another: STABILITY follows HALTED, a stability report is owed, and the
admission controller is told; leaving CALM, or a cause that joins, makes the announced placement yield
(R53, R148). -/
def State.setStability (s : State) (new : Stability) : State :=
  if s.monitor.state = new then s
  else if s.monitor.state = .calm || new = .halted then
    ((s.writeStability new).stabilityCause new).gateLost
  else ((s.writeStability new).stabilityCause new).evalHead

/-- The calm dwell's due time set or removed (R144, R145, R147). -/
def State.withDwell (s : State) (due : Option LocalTime) : State :=
  { s with monitor := { s.monitor with dwellDue := due } }

/-! ### Site state (R173) and the end of LEAVING (R181) -/

/-- The site state changes: a site report is owed (R173); the head is evaluated by the caller. -/
def State.enterSite (s : State) (new : SiteState) : State :=
  ({ s with site := { s.site with state := new } } : State).oweSite

/-- A frame of the urgent queue: CLAIM or RELEASE (R103). -/
def FrameSource.urgent : FrameSource → Bool
  | .claim _ _ | .release _ => true
  | .ownAnnounce _ _ | .answer _ _ _ | .survey _ => false

/-- An urgent frame is current. -/
def Transmitter.urgentCurrent (t : Transmitter) : Bool :=
  match t.current with
  | none => false
  | some f => f.source.urgent

/-- The condition that ends LEAVING (R181). -/
def State.leavingDone (s : State) : Bool :=
  s.site.state == .leaving && s.tx.urgent.isEmpty && !s.tx.urgentCurrent

/-- A current frame at the end of LEAVING, or at the expiry of the leave timer: one being sent finishes
its attempt with no retry, any other is discarded (R114, R181). -/
def CurrentFrame.finishing (f : CurrentFrame) : Option CurrentFrame :=
  if f.phase = .sending then some { f with lastAttempt := true } else none

/-- A place of the wall plan at the end of LEAVING: no answer under way, no window (R129, R134). -/
def WallPlace.offSite (p : WallPlace) : WallPlace :=
  { p with answer := .idle, again := false, window := none }

/-- LEAVING ends (R181): CONFIGURED, the leave timer cancelled, the peer claim table and the bulk queue
emptied, answers and windows closed, STATION_CLASH removed, the stability state held at HALTED. -/
def State.endLeaving (s : State) : State :=
  let t : State := s.enterSite .configured
  let u : State :=
    { t with
      site := { t.site with leaveDue := none, leaveExpired := false }
      claims := { t.claims with peers := [] }
      walls := t.walls.map WallPlace.offSite
      notice := { t.notice with waitingWalls := [], survey := none }
      tx := { t.tx with bulk := [], current := t.tx.current.bind CurrentFrame.finishing } }
  ((((u.dropCause .stationClash).setStability .halted).withDwell none)).reevaluate

end Sys2Proof.Machine
end

