-- ==== Sys2Proof/Machine/MapOps.lean ====
section
/-! DEFINITION. The operations of the course map shared by the meanings: retirement and raised solid
heights (R19, R20), inserts and merges (R12, R16 to R18), and the walks that turn WET records SET
(R25, R31, R32, R37). -/

namespace Sys2Proof.Machine

/-! ### Retirement (R19, R20) -/

/-- Every slot of a course holds a SET record (R19). -/
def State.courseIsSet (s : State) (w : Nat) (d : WallDef) (course : Nat) : Bool :=
  (List.range (d.slotCount course)).all fun p =>
    match s.recordAt { wall := w, course := course, pos := p } with
    | none => false
    | some r => r.isSet

/-- A record of a wall below a height. -/
def SlotRecord.under (r : SlotRecord) (w h : Nat) : Bool := r.slot.wall == w && r.slot.course < h

/-- The solid height of a wall becomes `h`: the records below it are deleted, and the height-owed mark
is set if one of them was an own record still owed (R19, R20). -/
def State.raiseHeight (s : State) (w h : Nat) : State :=
  let owed := s.map.records.any fun r => r.under w h && r.own && r.owed
  (s.withRecords (s.map.records.filter fun r => !r.under w h)).mapWall w fun p =>
    { p with solidHeight := h, heightOwed := p.heightOwed || owed }

/-- The retirement check of R19, repeated upward; each retirement is told (R22). `k` bounds the courses. -/
def State.retire (w : Nat) : Nat → State → State
  | 0, s => s
  | k + 1, s =>
    match (s.wall w).definition with
    | none => s
    | some d =>
      let h := (s.wall w).solidHeight
      if h ≤ d.top && s.courseIsSet w d h then
        State.retire w k (s.raiseHeight w (h + 1)).mapChanged
      else s

/-- The retirement check of a wall (R19): at most one pass per course. -/
def State.checkRetirement (s : State) (w : Nat) : State := State.retire w 65 s

/-- A LAID notice's solid height for a wall (R20). -/
def State.applyHeight (s : State) (w : Nat) (d : WallDef) (carried : Nat) : State :=
  let h := min carried (d.top + 1)
  if (s.wall w).solidHeight < h then ((s.raiseHeight w h).mapChanged).checkRetirement w else s

/-! ### Faults, inserts and merges (R12, R16, R17, R18) -/

/-- A DOUBLE_LAY fault replaces the fault record; a site report is owed (R17). -/
def State.doubleLay (s : State) (slot : Slot) (peer : Option Nat) : State :=
  ({ s with map := { s.map with fault := some { slot := slot, peer := peer } } } : State).oweSite

/-- The stamp that makes a record read maturity `m` (R16, R17). -/
def CureClass.stampFor (c : CureClass) (m : Nat) : Accum := c.accum - BitVec.ofNat 32 m

/-- A carried maturity makes a record SET: the "set" mark, or at or above the threshold (R16). -/
def CureClass.carriesSet (c : CureClass) (m : Nat) : Bool := m == Config.setMark || c.threshold ≤ m

/-- The state of a record made from a carried maturity (R16). -/
def CureClass.carried (c : CureClass) (m : Nat) : Adhesive :=
  if c.carriesSet m then .set else .wet (c.stampFor m)

/-- The retirement check after a record of this slot has become SET: made when the slot lies in the
wall's lowest unretired course (R19, R32). -/
def State.checkSlot (s : State) (slot : Slot) : State :=
  if slot.course = (s.wall slot.wall).solidHeight then s.checkRetirement slot.wall else s

/-- A record made or changed is told (R22), and one made SET starts the retirement check (R15, R19). -/
def State.recordChanged (s : State) (r : SlotRecord) : State :=
  let t := (s.putRecord r).mapChanged
  if r.isSet then t.checkSlot r.slot else t

/-- A peer insert that finds no room is dropped: the gap flag is set, the open window's drop mark is
set, and a flag that was clear owes a site report (R18). -/
def State.dropInsert (s : State) (w : Nat) : State :=
  let t := s.mapWall w fun p =>
    { p with gap := true, window := p.window.map fun x => { x with dropMark := true } }
  if (s.wall w).gap then t else t.oweSite.mapChanged

/-- An entry for an OPEN slot (R16, R18). -/
def State.insertPeer (s : State) (slot : Slot) (sender m : Nat) : State :=
  if s.map.records.length < Config.peerInsertLimit then
    s.recordChanged
      { slot := slot, state := (s.wallClass slot.wall).carried m, laidBy := sender, own := false,
        owed := false }
  else s.dropInsert slot.wall

/-- An entry for a slot that holds a peer record: the greater maturity is kept (R17). -/
def State.mergePeer (s : State) (r : SlotRecord) (m : Nat) : State :=
  let c := s.wallClass r.slot.wall
  match r.state with
  | .set => s
  | .wet stamp =>
    if c.carriesSet m then s.recordChanged { r with state := .set }
    else if maturity c.accum stamp < m then s.recordChanged { r with state := .wet (c.stampFor m) }
    else s

/-- One entry of a LAID notice (R15 to R18). -/
def State.applyEntry (w sender : Nat) (s : State) (e : LaidEntry) : State :=
  match (s.wall w).definition with
  | none => s
  | some d =>
    let slot : Slot := { wall := w, course := e.course.toNat, pos := e.pos.toNat }
    if slot.course < (s.wall w).solidHeight || !d.inRange slot.course slot.pos then s
    else
      match s.recordAt slot with
      | none => s.insertPeer slot sender e.maturity.toNat
      | some r =>
        if r.own then s.doubleLay slot (some sender) else s.mergePeer r e.maturity.toNat

/-- A LAID notice (R15): the solid height, then the entries in order; a wall not defined is ignored. -/
def State.applyLaid (s : State) (sender w height : Nat) (entries : List LaidEntry) : State :=
  match (s.wall w).definition with
  | none => s
  | some d => entries.foldl (State.applyEntry w sender) (s.applyHeight w d height)

/-- The new own record of R12. -/
def State.ownRecord (s : State) (slot : Slot) (state : Adhesive) : SlotRecord :=
  { slot := slot, state := state, laidBy := s.cfg.station, own := true, owed := true }

/-- The own insert of R12, by what the target slot reads. -/
def State.ownInsert (s : State) (slot : Slot) : State :=
  let fresh : Adhesive := .wet (s.wallClass slot.wall).accum
  match s.readSlot slot with
  | .retired => s.doubleLay slot none
  | .vacant => s.putRecord (s.ownRecord slot fresh)
  | .wet | .set =>
    match s.recordAt slot with
    | none => s
    | some r =>
      if r.own then s.doubleLay slot none
      else
        (s.putRecord (s.ownRecord slot (if r.isSet then .set else fresh))).doubleLay slot
          (some r.laidBy)

/-! ### Walks (R25, R31, R32, R37) -/

/-- One record of a walk: a WET record at or above its class's threshold turns SET, with the
consequences of R32 before the walk moves on (R31). -/
def State.walkSlot (s : State) (slot : Slot) : State :=
  match s.recordAt slot with
  | none => s
  | some r =>
    match r.state with
    | .set => s
    | .wet stamp =>
      let c := s.wallClass slot.wall
      if c.threshold ≤ maturity c.accum stamp then s.recordChanged { r with state := .set } else s

/-- The slots of the WET records, in key order (R31). -/
def State.wetSlots (s : State) : List Slot :=
  (s.map.records.filter fun r => !r.isSet).map SlotRecord.slot

/-- The cure sweep: every WET record is walked in key order (R31). -/
def State.sweep (s : State) : State := s.wetSlots.foldl State.walkSlot s

/-- A slot lies on a wall of this cure class. -/
def State.slotOfClass (s : State) (k : Nat) (slot : Slot) : Bool :=
  match (s.wall slot.wall).definition with
  | none => false
  | some d => d.cls == k

/-- The conversion walk of R25: the WET records of the walls of one class. -/
def State.conversionWalk (s : State) (k : Nat) : State :=
  (s.wetSlots.filter (s.slotOfClass k)).foldl State.walkSlot s

end Sys2Proof.Machine
end

