-- ==== Sys2Proof/Machine/Frames.lean ====
section
/-! DEFINITION. The frames the part builds: site link frames from the records of the transmit queues
(R73, R105, R112, R113, R185) and the outgoing frames of the arm port (R149, R159, R162, R167, R188). -/

namespace Sys2Proof.Machine

/-! ### Site link frames -/

/-- This station's number as the sender octet of a frame (R105). -/
def State.senderOctet (s : State) : Octet := BitVec.ofNat 8 s.cfg.station

/-- The state octet of a CLAIM (R185). -/
def ClaimState.code : ClaimState → Octet
  | .tentative => 1
  | .firm => 2
  | .seated => 3

/-- The claim state a CLAIM's state octet names (R78, R185). -/
def ClaimState.ofCode (o : Octet) : Option ClaimState :=
  if o = 1 then some .tentative else if o = 2 then some .firm
  else if o = 3 then some .seated else none

/-- The CLAIM notice of an own claim as it stands (R73). -/
def State.claimNotice (s : State) (c : OwnClaim) : Notice :=
  .claim c.number c.state.code (BitVec.ofNat 16 c.precedence) (BitVec.ofNat 16 s.cfg.hold)
    (c.cells.map (BitVec.ofNat 16))

/-- The maturity a record reads (R10): its difference from the accumulator, or the "set" mark; a WET
maturity is saturated below the mark (R35, R170). -/
def State.shownMaturity (s : State) (r : SlotRecord) : Nat :=
  match r.state with
  | .set => Config.setMark
  | .wet stamp => min (maturity (s.wallClass r.slot.wall).accum stamp) (Config.setMark - 1)

/-- The LAID entry of a record (R35, R112). -/
def State.laidEntry (s : State) (r : SlotRecord) : LaidEntry :=
  { course := BitVec.ofNat 8 r.slot.course, pos := BitVec.ofNat 16 r.slot.pos,
    maturity := BitVec.ofNat 24 (s.shownMaturity r) }

/-- The LAID notice of a wall with these records (R13, R113). -/
def State.laidNotice (s : State) (w : Nat) (records : List SlotRecord) : Notice :=
  .laid (BitVec.ofNat 8 w) (BitVec.ofNat 8 (s.wall w).solidHeight) (records.map s.laidEntry)

/-- The records an own-announce frame of a wall carries (R13, R112). -/
def State.announceRecords (s : State) (w : Nat) : List SlotRecord :=
  (s.map.records.filter fun r => r.slot.wall == w && r.own && r.owed).take Config.laidEntries

/-- The records of a wall with keys after a cursor; all of them if it is absent (R113). -/
def State.recordsAfter (s : State) (w : Nat) (cursor : Option Slot) : List SlotRecord :=
  s.map.records.filter fun r =>
    r.slot.wall == w && (match cursor with
      | none => true
      | some k => k.before r.slot)

/-- The records the next frame of a survey answer carries (R113). -/
def State.answerRecords (s : State) (w : Nat) (cursor : Option Slot) : List SlotRecord :=
  (s.recordsAfter w cursor).take Config.laidEntries

/-- The slots of the own records among these (R14). -/
def ownSlots (records : List SlotRecord) : List Slot :=
  (records.filter SlotRecord.own).map SlotRecord.slot

/-- The wall value of a SURVEY (R185). -/
def WallSelect.code : WallSelect → Octet
  | .one w => BitVec.ofNat 8 w
  | .all => 255

/-- The walls a wall value names (R117, R130). -/
def WallSelect.ofCode (o : Octet) : WallSelect := if o = 255 then .all else .one o.toNat

/-- A current frame just built, none of it sent: its collision count is 0 (R105). -/
def State.builtFrame (s : State) (source : FrameSource) (n : Notice) : CurrentFrame :=
  { source := source, octets := frameOctets (n.payload s.senderOctet), sent := 0,
    collisions := 0, phase := .waiting, lastAttempt := false }

/-! ### Codes of the arm port (R188) -/

/-- Answer codes. -/
def AnswerCode.code : AnswerCode → Octet
  | .ok => 0
  | .badState => 1
  | .badValue => 2
  | .queueFull => 3
  | .dupTag => 4
  | .badSlot => 5
  | .cellsMiss => 6
  | .slotTaken => 7
  | .noSuchTag => 8
  | .tooLate => 9
  | .notFirm => 10
  | .armInCells => 11
  | .causesActive => 12

/-- Cause codes. -/
def Cause.code : Cause → Octet
  | .stability => 1
  | .claimConflict => 2
  | .claimLapse => 3
  | .stationClash => 4
  | .localStop => 5
  | .supplyLow => 6

/-- First cause codes: 0 when absent, 7 for RESTART. -/
def firstCauseCode : Option FirstCause → Octet
  | none => 0
  | some (.cause c) => c.code
  | some .restart => 7

/-- Placement state codes. -/
def PlacementState.code : PlacementState → Octet
  | .queued => 0
  | .waitSupport => 1
  | .waitCells => 2
  | .announcing => 3
  | .tentative => 4
  | .firm => 5
  | .seated => 6
  | .done => 7
  | .withdrawn => 8
  | .failed => 9

/-- Reason codes; 0 when absent. -/
def reasonCode : Option Reason → Octet
  | none => 0
  | some (.wait .notOnline) => 1
  | some (.wait .notCalm) => 2
  | some (.wait .stopped) => 3
  | some (.wait .viewLag) => 4
  | some (.wait .viewDoubt) => 5
  | some (.wait .mapFull) => 6
  | some (.wait .cellsHeld) => 7
  | some (.wait .linkFail) => 8
  | some (.wait .linkBusy) => 9
  | some (.fail .slotTaken) => 16
  | some (.fail .supportTimeout) => 17
  | some (.fail .viewGap) => 18
  | some (.fail .abandoned) => 19
  | some (.fail .left) => 20

/-- Send-fail codes; 0 when none. -/
def sendFailCode : Option SendFail → Octet
  | none => 0
  | some .claim => 1
  | some .release => 2
  | some .laid => 3
  | some .answer => 4
  | some .survey => 5

/-- Slot state codes. -/
def SlotState.code : SlotState → Octet
  | .vacant => 0
  | .wet => 1
  | .set => 2
  | .retired => 3

/-- Stability state codes. -/
def Stability.code : Stability → Octet
  | .calm => 0
  | .paused => 1
  | .halted => 2

/-- Site state codes. -/
def SiteState.code : SiteState → Octet
  | .unconfigured => 0
  | .configured => 1
  | .listening => 2
  | .online => 3
  | .leaving => 4

/-! ### Outgoing frames (R188) -/

/-- An octet from flag bits, bit 0 first. -/
def flagOctet (bits : List Bool) : Octet :=
  BitVec.ofNat 8 (bits.foldr (fun b n => 2 * n + b.toNat) 0)

/-- Two octets from flag bits, bit 0 first. -/
def flagWord (bits : List Bool) : List Octet :=
  octets16 (BitVec.ofNat 16 (bits.foldr (fun b n => 2 * n + b.toNat) 0))

/-- A number as one octet. -/
def octetOf (n : Nat) : Octet := BitVec.ofNat 8 n

/-- A number as two octets. -/
def wordOf (n : Nat) : List Octet := octets16 (BitVec.ofNat 16 n)

/-- An outgoing frame: its length octet, kind octet and body (R161, R188). -/
def outFrame (kind : Octet) (body : List Octet) : List Octet :=
  octetOf (body.length + 1) :: kind :: body

/-- The null frame (R188). -/
def nullFrame : List Octet := [0]

/-- The body of a site report (R167, R188). -/
def SiteView.octets (v : SiteView) : List Octet :=
  [v.state.code, octetOf (v.station.getD 0),
    flagOctet [v.restartKind == .warm, v.lag, v.doubt, v.held, v.fault.isSome,
      (v.fault.bind DoubleLay.peer).isSome]]
    ++ flagWord v.gaps
    ++ (match v.fault with
      | none => [0, 0, 0, 0, 0]
      | some f =>
        [octetOf f.slot.wall, octetOf f.slot.course] ++ wordOf f.slot.pos
          ++ [octetOf (f.peer.getD 0)])
    ++ [sendFailCode v.lastFail]

/-- The content of a READ-SLOT answer (R170, R188). -/
def SlotView.octets (v : SlotView) : List Octet :=
  [v.state.code] ++ octets24 (BitVec.ofNat 24 (v.maturity.getD 0))
    ++ [octetOf (v.laidBy.getD 0), flagOctet [v.maturity.isSome, v.own, v.owed, v.gap],
      octetOf v.solidHeight]

/-- The content of an answer (R188). -/
def AnswerContent.octets : AnswerContent → List Octet
  | .plain => []
  | .slot v => v.octets
  | .site v => v.octets

/-- The ANSWER frame (R165, R188). -/
def Answer.frame (a : Answer) : List Octet :=
  outFrame 0x80 ([a.kind, a.code.code, flagOctet [a.lost]] ++ a.content.octets)

/-- The STOP report (R159, R188). -/
def State.stopReport (s : State) : List Octet :=
  outFrame 0x81
    ([flagOctet [s.armstop, s.stop.latch, s.stop.lstopStop],
        flagOctet (Cause.all.map s.stop.causes.has),
        octetOf (if s.stop.causes.claimConflict then s.stop.conflictStation.getD 0 else 0),
        firstCauseCode s.stop.first, octetOf s.stop.seen.length]
      ++ s.stop.seen.map Cause.code)

/-- The gust: the largest speed of the history, absent if it is empty (R141). -/
def Monitor.gust (m : Monitor) : Option Nat := m.gusts.max?

/-- The STABILITY report (R149, R188). -/
def State.stabilityReport (s : State) : List Octet :=
  let m := s.monitor
  outFrame 0x82
    ([m.state.code,
        flagOctet [m.reference, m.dwellDue.isSome, m.inclineX.isSome, m.inclineY.isSome,
          m.strain.isSome, m.gusts.getLast?.isSome, m.gust.isSome, m.ambient.isSome]]
      ++ wordOf (m.inclineX.getD 0) ++ wordOf (m.inclineY.getD 0) ++ wordOf (m.strain.getD 0)
      ++ wordOf (m.gusts.getLast?.getD 0) ++ wordOf (m.gust.getD 0)
      ++ octets16 (BitVec.ofInt 16 (m.ambient.getD 0)))

/-- The PLACEMENT report of a record (R65, R188). -/
def Placement.report (p : Placement) : List Octet :=
  outFrame 0x83
    ([p.tag, p.state.code, reasonCode p.reason, octetOf p.yields, octetOf (p.blocking.getD 0),
        flagOctet [p.overrun, p.missing.isSome]]
      ++ (match p.missing with
        | none => [0, 0, 0, 0]
        | some slot => [octetOf slot.wall, octetOf slot.course] ++ wordOf slot.pos))

/-- The site-wide view of R167. A gap flag reads clear for a wall not defined. -/
def State.siteView (s : State) : SiteView :=
  { state := s.site.state, station := s.site.config.map SiteConfig.station,
    restartKind := s.site.restartKind, lag := s.rx.lag, doubt := s.notice.doubtDue.isSome,
    held := s.cure.held,
    gaps := wallNumbers.map fun w => (s.wall w).definition.isSome && (s.wall w).gap,
    fault := s.map.fault, lastFail := s.tx.lastFail }

/-- The SITE report (R167, R188). -/
def State.siteReport (s : State) : List Octet := outFrame 0x84 s.siteView.octets

/-- The view of one slot (R170). -/
def State.slotView (s : State) (slot : Slot) : SlotView :=
  let r := if s.readSlot slot = .retired then none else s.recordAt slot
  { state := s.readSlot slot
    maturity :=
      if s.readSlot slot = .retired then some Config.setMark else r.map s.shownMaturity
    laidBy := r.map SlotRecord.laidBy
    own := (r.map SlotRecord.own).getD false
    owed := (r.map fun x => x.own && x.owed).getD false
    gap := (s.wall slot.wall).gap
    solidHeight := (s.wall slot.wall).solidHeight }

end Sys2Proof.Machine
end

