-- ==== Sys2Proof/Machine/LinkOps.lean ====
section
/-! DEFINITION. The operations of the site link shared by the meanings: frames arriving and dropped
(R95 to R99), the sources of the bulk queue and the order of its places (R13, R104, R127, R130), survey
answers (R126, R128), and what each outcome of a frame does to the block that queued it (R111). -/

namespace Sys2Proof.Machine

/-! ### Receiver (R95 to R99) -/

/-- The state with this receiver. -/
def State.withRx (s : State) (rx : Receiver) : State := { s with rx := rx }

/-- The receiver's state. -/
def State.withPhase (s : State) (phase : RxPhase) : State := s.withRx { s.rx with phase := phase }

/-- The idle count. -/
def State.withIdle (s : State) (n : Nat) : State := s.withRx { s.rx with idleCount := n }

/-- A frame that has passed HUNT is being received (R95). -/
def RxPhase.receiving : RxPhase → Bool
  | .length _ | .body _ | .check _ _ => true
  | .inactive | .gapWait | .hunt => false

/-- TXEN was deasserted while the frame was received: it will not be an echo (R99). -/
def RxPhase.loseEcho : RxPhase → RxPhase
  | .inactive => .inactive
  | .gapWait => .gapWait
  | .hunt => .hunt
  | .length _ => .length false
  | .body f => .body { f with echo := false }
  | .check f first => .check { f with echo := false } first

/-- TXEN is asserted: the current frame is being sent (R106). -/
def State.txen (s : State) : Bool :=
  match s.tx.current with
  | none => false
  | some f => f.phase == .sending

/-- The recessive bit times that end an octet: those of its last data bits and of its stop bit (R93,
R95). -/
def idleRun (octet : Octet) (stopRecessive : Bool) : Nat :=
  if stopRecessive then
    1 + ([7, 6, 5, 4, 3, 2, 1, 0].takeWhile fun i => octet.getLsbD i).length
  else 0

/-- A frame that has passed HUNT is dropped: its octets leave the store, the fill is judged, and the
notice processor starts view doubt (R98, R123). -/
def State.dropFrame (s : State) (next : RxPhase) : State :=
  (s.withPhase next).judgeLag.startDoubt

/-- An overflow at the status record: as many of its octets as there is room for are written and leave
again (R95, R96, R101). -/
def State.dropStatus (s : State) : State :=
  (if s.rx.fill < Config.storeCapacity then s.judgeLagAt Config.storeCapacity else s).dropFrame
    .gapWait

/-- A frame arrives: its status record is completed, and it is visible to the notice processor (R97). -/
def State.arrive (s : State) (f : OpenFrame) : State :=
  s.withRx
    { s.rx with
      phase := .gapWait
      frames :=
        s.rx.frames ++ [{ echo := f.echo, arrival := s.now.setWidth 16, octets := f.octets }] }

/-- The CRC of a frame being received: over its length octet and the octets stored (R186). -/
def OpenFrame.crc (f : OpenFrame) : BitVec 16 := Sys2Proof.crc (f.length :: f.octets)

/-- An octet in HUNT (R95). -/
def State.huntOctet (s : State) (octet : Octet) (stopRecessive : Bool) : State :=
  if !stopRecessive || octet != Config.delimiter then s.withPhase .gapWait
  else if Config.storeCapacity < s.rx.fill + Config.statusOctets then s.dropStatus
  else (s.withPhase (.length s.txen)).judgeLag

/-- An octet with a recessive stop bit in LENGTH (R95). -/
def State.lengthOctet (s : State) (octet : Octet) (echo : Bool) : State :=
  if 3 ≤ octet.toNat && octet.toNat ≤ 80 then
    s.withPhase (.body { length := octet, octets := [], echo := echo })
  else s.dropFrame .gapWait

/-- The state after an octet of a body: BODY, or CHECK when the last has been written (R95). -/
def OpenFrame.grow (f : OpenFrame) (octet : Octet) : RxPhase :=
  let g : OpenFrame := { f with octets := f.octets ++ [octet] }
  if f.length.toNat ≤ g.octets.length then .check g none else .body g

/-- An octet with a recessive stop bit in BODY (R95). -/
def State.bodyOctet (s : State) (octet : Octet) (f : OpenFrame) : State :=
  if Config.storeCapacity < s.rx.fill + 1 then s.dropFrame .gapWait
  else (s.withPhase (f.grow octet)).judgeLag

/-- An octet with a recessive stop bit in CHECK (R95). -/
def State.checkOctet (s : State) (octet : Octet) (f : OpenFrame) (first : Option Octet) : State :=
  match first with
  | none => s.withPhase (.check f (some octet))
  | some hi => if f.crc = word16 hi octet then s.arrive f else s.dropFrame .gapWait

/-- An octet by the receiver's state (R95). -/
def State.hearOctet (s : State) (octet : Octet) (stopRecessive : Bool) : State :=
  match s.rx.phase with
  | .inactive => s
  | .gapWait => s
  | .hunt => s.huntOctet octet stopRecessive
  | .length echo =>
    if stopRecessive then s.lengthOctet octet echo else s.dropFrame .gapWait
  | .body f => if stopRecessive then s.bodyOctet octet f else s.dropFrame .gapWait
  | .check f first => if stopRecessive then s.checkOctet octet f first else s.dropFrame .gapWait

/-- A changed bit rate (R93): the receiver returns to GAP_WAIT with the idle count at 0, a frame being
received is dropped as truncated, and a current frame is abandoned without an outcome. -/
def State.changeRate (s : State) : State :=
  let t := (s.withCurrent none).withIdle 0
  if s.rx.phase.receiving then t.dropFrame .gapWait else t.withPhase .gapWait

/-! ### Sources of the bulk queue, in the order R104 serves them -/

/-- The bulk queue has a free place (R103). -/
def State.bulkFree (s : State) : Bool := s.tx.bulk.length < Config.bulkCapacity

/-- The survey answer state of a wall. -/
def State.setAnswer (s : State) (w : Nat) (a : AnswerState) : State :=
  s.mapWall w fun p => { p with answer := a }

/-- A SURVEY notice is owed: pending, its record not yet in the bulk queue (R130). -/
def State.surveyOwed (s : State) : Bool := s.notice.survey.any fun p => !p.queued

/-- An owed SURVEY notice finds a bulk place; it is the first source (R104, R130). -/
def State.surveyReady (s : State) : Bool := !s.inRestart && s.surveyOwed && s.bulkFree

/-- The SURVEY record joins the bulk queue (R130). -/
def State.queueSurvey (s : State) : State :=
  ({ s with
      notice := { s.notice with survey := s.notice.survey.map fun p => { p with queued := true } } }
    : State).withBulk (s.tx.bulk ++ [.survey])

/-- A waiting survey answer finds a bulk place that no owed SURVEY notice takes (R104, R127). -/
def State.answerReady (s : State) : Bool :=
  !s.inRestart && !s.surveyOwed && !s.notice.waitingWalls.isEmpty && s.bulkFree

/-- The wall first in the waiting order takes the place (R127). -/
def State.queueAnswer (s : State) : State :=
  match s.notice.waitingWalls with
  | [] => s
  | w :: rest =>
    (({ s with notice := { s.notice with waitingWalls := rest } } : State).withBulk
      (s.tx.bulk ++ [.answer w none])).setAnswer w .queued

/-- A wall has something to announce: an owed own record, or its height-owed mark (R13). -/
def State.wallOwes (s : State) (w : Nat) : Bool :=
  (s.map.records.any fun r => r.slot.wall == w && r.own && r.owed) || (s.wall w).heightOwed

/-- The current frame was built from an own-announce record of a wall. -/
def FrameSource.announces (w : Nat) : FrameSource → Bool
  | .ownAnnounce v _ => v == w
  | .claim _ _ | .release _ | .answer _ _ _ | .survey _ => false

/-- A wall has an own-announce record queued or current (R13). -/
def Transmitter.announcing (t : Transmitter) (w : Nat) : Bool :=
  t.bulk.contains (.ownAnnounce w) || (t.current.any fun f => f.source.announces w)

/-- The wall whose own-announce record is queued next (R13). -/
def State.announceWall (s : State) : Option Nat :=
  wallNumbers.find? fun w => s.wallOwes w && !s.tx.announcing w

/-- The map may queue an own-announce record, in a place that neither an owed SURVEY notice nor a waiting
answer takes (R13, R104). -/
def State.announceReady (s : State) : Bool :=
  !s.inRestart && s.site.state.onSite && !s.surveyOwed && s.notice.waitingWalls.isEmpty && s.bulkFree
    && s.announceWall.isSome

/-- The own-announce record joins the bulk queue (R13). -/
def State.queueAnnounce (s : State) : State :=
  match s.announceWall with
  | none => s
  | some w => s.withBulk (s.tx.bulk ++ [.ownAnnounce w])

/-! ### Free bulk places offered (R104, R126 to R128) -/

/-- A free place offered to an owed SURVEY notice (R104). -/
def State.serveSurvey (s : State) : State := if s.surveyReady then s.queueSurvey else s

/-- A free place offered to the wall first in the waiting order (R127). -/
def State.serveAnswer (s : State) : State := if s.answerReady then s.queueAnswer else s

/-- A free place offered to the course map (R13). -/
def State.serveAnnounce (s : State) : State := if s.announceReady then s.queueAnnounce else s

/-- The free places offered to an owed SURVEY notice and then to the waiting walls, one each (R104). -/
def State.serveOlder (s : State) : State :=
  s.serveSurvey.notice.waitingWalls.foldl (fun t _ => t.serveAnswer) s.serveSurvey

/-- The free places offered to every source that waits for one, in the order of R104. A source that
arrives later joins behind all of these (log 12). -/
def State.serveBulk (s : State) : State :=
  wallNumbers.foldl (fun t _ => t.serveAnnounce) s.serveOlder

/-! ### Survey answers (R125 to R128) -/

/-- A wall that is IDLE owes an answer: behind an owed SURVEY notice and older waiting walls its record
joins the bulk queue, or the wall waits (R126, R128). -/
def State.oweAnswer (s : State) (w : Nat) : State :=
  let t := s.serveOlder
  if t.bulkFree then (t.withBulk (t.tx.bulk ++ [.answer w none])).setAnswer w .queued
  else
    ({ t with notice := { t.notice with waitingWalls := t.notice.waitingWalls ++ [w] } }
      : State).setAnswer w .waiting

/-- A SURVEY names a defined wall; a wall that is IDLE passes over no older source (R126). -/
def State.surveyWall (s : State) (w : Nat) : State :=
  match (s.wall w).answer with
  | .idle => s.serveBulk.oweAnswer w
  | .waiting | .queued => s
  | .answering => s.mapWall w fun p => { p with again := true }

/-- A SURVEY of a peer (R126): each defined wall it names, ascending. -/
def State.surveyed (s : State) (select : WallSelect) : State :=
  match select with
  | .one w => if (s.wall w).definition.isSome then s.surveyWall w else s
  | .all => s.definedWalls.foldl State.surveyWall s

/-- A survey answer ends: its wall becomes IDLE, and the again mark starts a fresh answer (R128). -/
def State.answerDone (s : State) (w : Nat) : State :=
  let t := s.mapWall w fun p => { p with answer := .idle, again := false }
  if (s.wall w).again then t.oweAnswer w else t

/-- The answer record at the head of the bulk queue leaves it (R111, R113). -/
def State.endAnswer (s : State) (w : Nat) : State := (s.withBulk s.tx.bulk.tail).answerDone w

/-- A frame of a survey answer has been sent: the cursor moves on; the record stays while a record of
the wall lies beyond it, and else leaves (R113, R128). -/
def State.advanceAnswer (s : State) (w : Nat) (last : Option Slot) : State :=
  match s.tx.bulk with
  | .answer _ cursor :: rest =>
    let next := last.or cursor
    if (s.recordsAfter w next).isEmpty then s.endAnswer w else s.withBulk (.answer w next :: rest)
  | _ => s

/-- A LAID frame of a wall has been sent: the marks it carried are cleared (R14). A frame of a survey
answer that carries no own record clears the wall's height-owed mark too: R14 first says so of every LAID
frame, and then only of answers that carry own records: DESIGN CHOICE, unsafe (log 30). -/
def State.laidSent (s : State) (w : Nat) (own : List Slot) : State :=
  (s.withRecords
      (s.map.records.map fun r =>
        if r.own && own.contains r.slot then { r with owed := false } else r)).mapWall
    w fun p => { p with heightOwed := false }

/-- The survey window of a wall opens, or replaces an open one (R131, R132). -/
def State.openWindow (s : State) (w : Nat) : State :=
  s.mapWall w fun p =>
    { p with window := some { due := s.after (4 * s.cfg.refresh), dropMark := false } }

/-- A SURVEY frame has been sent: the windows of the walls it named open (R131). -/
def State.surveySent (s : State) (select : WallSelect) : State :=
  match select with
  | .one w => s.openWindow w
  | .all => s.definedWalls.foldl State.openWindow s

/-! ### Outcomes of CLAIM frames (R52, R74 to R76) -/

/-- The place in the queue of the placement in a state with a tag. -/
def State.tagIndex (s : State) (tag : Octet) (state : PlacementState) : Option Nat :=
  s.admission.queue.findIdx? fun p => p.tag == tag && p.state == state

/-- The placement with a tag and a state changed, if there is one. -/
def State.mapTag (s : State) (tag : Octet) (state : PlacementState) (f : Placement → Placement) :
    State :=
  match s.tagIndex tag state with
  | none => s
  | some i => s.mapPlacement i f

/-- An own claim after a CLAIM frame of it has been sent at time `t` (R74): the first send starts its
settle. -/
def OwnClaim.sentAt (c : OwnClaim) (t : LocalTime) (settle : Nat) : OwnClaim :=
  { c with
    lastSend := some t, refreshTaken := false, lapsed := false,
    settleDue := if c.lastSend.isNone then some (later t settle) else c.settleDue }

/-- A CLAIM frame of an own claim that is not abandoned has been sent (R51, R74). -/
def State.claimSent (s : State) (c : OwnClaim) : State :=
  let t := s.mapClaim c.number fun c => c.sentAt s.now s.cfg.settle
  (if c.lastSend.isNone then
      t.mapTag c.tag .announcing fun p => { p with state := .tentative }
    else t).judgeLapse

/-- A CLAIM frame has been sent (R74, R76): a claim that has left the list takes no outcome; an
abandoned one is deleted and its RELEASE queued. -/
def State.claimFrameSent (s : State) (n : Octet) (gone : Bool) : State :=
  if gone then s
  else
    match s.ownClaim n with
    | none => s
    | some c =>
      if c.abandoned then ((s.deleteClaim n).queueRelease n).reevaluate else s.claimSent c

/-- An abandoned claim's frame ended without being sent (R52, R76). -/
def State.claimFrameLost (s : State) (n : Octet) (gone : Bool) : State :=
  if gone then s
  else
    match s.ownClaim n with
    | none => s
    | some c => (s.dismissClaim c).reevaluate

/-- A placement's CLAIM(TENTATIVE) has been dropped: it waits with LINK_FAIL for its holdoff (R50,
R51). -/
def Placement.linkFail (p : Placement) (holdoff : LocalTime) : Placement :=
  { p.waitCells .linkFail none with holdoff := some holdoff }

/-- A CLAIM frame has been dropped at the attempt limit (R75). -/
def State.claimDropped (s : State) (n : Octet) (gone : Bool) : State :=
  if gone then s
  else
    match s.ownClaim n with
    | none => s
    | some c =>
      if c.abandoned then (s.dismissClaim c).reevaluate
      else if c.lastSend.isNone then
        ((s.deleteClaim n).mapTag c.tag .announcing fun p =>
          p.linkFail (s.after s.cfg.refresh)).reevaluate
      else s.requestAnnounce n

/-! ### Outcomes by the kind of record (R111) -/

/-- A frame ended sent (R109, R111). The bulk sources that found a place before this moment have taken it
when an answer moves on (R104). After the end of LEAVING an answer moves no wall and a SURVEY opens no
window (R129, R131). -/
def State.frameSent (s : State) (f : CurrentFrame) : State :=
  match f.source with
  | .claim n gone => s.claimFrameSent n gone
  | .release _ => s
  | .ownAnnounce w own => s.laidSent w own
  | .answer w own last =>
    let t := s.serveBulk.laidSent w own
    if f.lastAttempt then t else t.advanceAnswer w last
  | .survey select => if f.lastAttempt then s else s.surveySent select

/-- The send-fail kind of a frame (R111). -/
def FrameSource.failKind : FrameSource → SendFail
  | .claim _ _ => .claim
  | .release _ => .release
  | .ownAnnounce _ _ => .laid
  | .answer _ _ _ => .answer
  | .survey _ => .survey

/-- A frame was dropped at its tenth collision (R107, R109, R111). -/
def State.frameDropped (s : State) (f : CurrentFrame) : State :=
  let t := ({ s with tx := { s.tx with lastFail := some f.source.failKind } } : State).oweSite
  match f.source with
  | .claim n gone => t.claimDropped n gone
  | .release _ => t
  | .ownAnnounce _ _ => t
  | .answer w _ _ => if f.lastAttempt then t else t.serveBulk.endAnswer w
  | .survey _ => t

/-- A frame is not tried again after a collision: its claim is abandoned or deleted (R110), or LEAVING
allows no retry (R114, R181). -/
def State.noRetry (s : State) (f : CurrentFrame) : Bool :=
  f.lastAttempt
    || (match f.source with
      | .claim n gone => gone || ((s.ownClaim n).map OwnClaim.abandoned).getD true
      | .release _ | .ownAnnounce _ _ | .answer _ _ _ | .survey _ => false)

/-- A frame is discarded after a collision that is not the tenth (R52, R110, R111). -/
def State.frameDiscarded (s : State) (f : CurrentFrame) : State :=
  match f.source with
  | .claim n gone => s.claimFrameLost n gone
  | .release _ | .ownAnnounce _ _ | .answer _ _ _ | .survey _ => s

/-- The slots of a backoff after collision `k`: a draw held to 0..2^m − 1, m the smaller of k and 6
(R108). -/
def backoffSlots (k draw : Nat) : Nat := draw % 2 ^ min k 6

end Sys2Proof.Machine
end

