-- ==== Sys2Proof/Machine/Requests.lean ====
section
/-! DEFINITION. What every request of the arm port shares: how it is taken, refused or lost, and how
its answer is produced (R164, R165, R168). -/

namespace Sys2Proof.Machine

/-- The outcome of one step of the part. -/
abbrev Result := Host.Outcome State Fault Refusal

/-- What a request does: the state after its effect, its answer code and the content of its answer. -/
structure Reply where
  state : State
  code : AnswerCode
  content : AnswerContent

/-- A refused request has no effect (R168, R169). -/
def State.refuse (s : State) (code : AnswerCode) : Reply :=
  { state := s, code := code, content := .plain }

/-- An accepted request. -/
def State.accept (s : State) : Reply := { state := s, code := .ok, content := .plain }

/-- The answer to a request is produced (R165): it carries the requests-lost mark, which is then
cleared, and the intake becomes free. -/
def State.produce (s : State) (kind : Octet) (code : AnswerCode) (content : AnswerContent) : State :=
  { s with
    port :=
      { s.port with
        intake := none
        answer :=
          some { kind := kind, code := code, lost := s.port.requestsLost, content := content }
        requestsLost := false } }

/-- The port's requests-lost mark is set (R164). -/
def State.loseRequest (s : State) : State := { s with port := { s.port with requestsLost := true } }

/-- The port can take this request: it is the one in the intake, or intake and answer slot are free
(R164, log 5). -/
def ArmPort.takes (p : ArmPort) (r : Instr) : Bool :=
  p.intake == some r || (p.intake.isNone && p.answer.isNone)

/-- The state while a request is being taken: the intake is busy with it (R164). -/
def State.taken (s : State) (r : Instr) : State :=
  { s with port := { s.port with intake := some r } }

/-- A request's checks and effect made while the intake is busy with it, and its answer produced (R164,
R165). -/
def State.answerWith (s : State) (r : Instr) (kind : RequestKind) (run : State → Reply) : State :=
  let reply := run (s.taken r)
  reply.state.produce kind.code reply.code reply.content

/-- A request is taken and answered; one that meets a busy port is lost with the mark set; none is taken
in a restart (R164, R165, R183). -/
def State.onRequest (s : State) (r : Instr) (kind : RequestKind) (run : State → Reply) : Result :=
  .next
    (if s.inRestart then s
    else if s.port.takes r then s.answerWith r kind run
    else s.loseRequest)

end Sys2Proof.Machine
end

