-- ==== Sys2Proof/Machine/Claims.lean ====
section
/-! DEFINITION. The claim unit's own events: settle expiry and the FIRM decision (R85 to R87), refresh
(R89), the lapse guard (R92), peer expiry (R81) and the announce of an OWED claim (R73). -/

namespace Sys2Proof.Machine

/-! ### The FIRM decision (R85 to R87) -/

/-- The settle due time of a claim is reached and no decision has been deferred (R85). -/
def OwnClaim.settles (now : LocalTime) (c : OwnClaim) : Bool :=
  c.state == .tentative && !c.abandoned && c.decision == .notDue && reachedSome now c.settleDue

/-- The claim at its settle expiry (R85). -/
def State.settledClaim (s : State) : Option OwnClaim :=
  if s.inRestart then none else s.claims.own.find? fun c => c.settles s.now

/-- A gate that the decision tests, or a blocking entry, makes it yield (R87). -/
def State.decisionYields (s : State) (c : OwnClaim) : Bool :=
  (s.blockingStation c.cells c.precedence).isSome || s.monitor.state != .calm || !s.stopClear
    || s.notice.doubtDue.isSome

/-- A placement becomes FIRM: its motion limit timer starts (R56, R58). -/
def Placement.firm (p : Placement) (now : LocalTime) : Placement :=
  { p with state := .firm, reason := none, motion := .running (later now (p.limit * 1000)) }

/-- A claim becomes FIRM (R87). -/
def OwnClaim.firm (c : OwnClaim) : OwnClaim :=
  { c with state := .firm, settleDue := none, decision := .notDue }

/-- A claim lapses: FIRM or SEATED at its lapse point with its mark clear (R92). -/
def OwnClaim.lapses (now : LocalTime) (interval : Nat) (c : OwnClaim) : Bool :=
  c.state != .tentative && !c.abandoned && !c.lapsed
    && reachedSome now (c.lastSend.map fun t => later t (2 * interval))

/-- The own claim of this number lapses. -/
def State.lapseReady (s : State) (n : Octet) : Bool :=
  !s.inRestart && (s.ownClaim n).any fun c => c.lapses s.now s.cfg.refresh

/-- A claim lapses: its mark is set and CLAIM_LAPSE put into the stop cause set (R92). -/
def State.lapse (s : State) (n : Octet) : State :=
  (s.mapClaim n fun c => { c with lapsed := true }).judgeLapse

/-- A claim at or past its lapse point lapses (R92). -/
def State.lapseIfDue (s : State) (n : Octet) : State := if s.lapseReady n then s.lapse n else s

/-- The FIRM decision (R87); a claim already past its lapse point lapses as soon as it is FIRM (R92). -/
def State.decide (s : State) (c : OwnClaim) : State :=
  if s.decisionYields c then s.yieldAnnounced.reevaluate
  else
    ((((s.mapClaim c.number OwnClaim.firm).requestAnnounce c.number).mapTag c.tag .tentative fun p =>
      p.firm s.now).reevaluate).lapseIfDue c.number

/-- The store position of the newest complete frame (R86). -/
def Receiver.newestPos (r : Receiver) : Nat :=
  (r.readPos + (r.frames.dropLast.map StoredFrame.size).sum) % Config.storeCapacity

/-- The decision is taken at once, or deferred to the newest complete frame (R86, R119). -/
def State.settleClaim (s : State) (c : OwnClaim) : State :=
  if s.rx.frames.isEmpty then s.decide c
  else s.mapClaim c.number fun c => { c with decision := .waitingFor s.rx.newestPos }

/-- SETTLE_EXPIRY (R85, R86). -/
def execSettleExpiry (s : State) : Result :=
  .next
    (match s.settledClaim with
    | none => s
    | some c => s.settleClaim c)

/-- The claim whose FIRM decision is due: its frame is finished, or its settle has expired with no frame
to wait for (R86). -/
def State.dueClaim (s : State) : Option OwnClaim :=
  if s.inRestart then none
  else
    s.claims.own.find? fun c =>
      !c.abandoned && c.state == .tentative
        && (c.decision == .due || (c.settles s.now && s.rx.frames.isEmpty))

/-- A FIRM decision that is due is taken (R87). -/
def State.takeDecision (s : State) : State :=
  match s.dueClaim with
  | none => s
  | some c => s.decide c

/-- FIRM_DECISION (R87). -/
def execFirmDecision (s : State) : Result := .next s.takeDecision

/-! ### Refresh and lapse point (R89, R92) -/

/-- The refresh due time of a claim is reached, and has not been acted on since its last send (R89). -/
def OwnClaim.refreshes (now : LocalTime) (interval : Nat) (c : OwnClaim) : Bool :=
  !c.abandoned && !c.refreshTaken && reachedSome now (c.lastSend.map fun t => later t interval)

/-- The own claim of this number is to be refreshed. -/
def State.refreshReady (s : State) (n : Octet) : Bool :=
  !s.inRestart && (s.ownClaim n).any fun c => c.refreshes s.now s.cfg.refresh

/-- A refresh falls due: an announce is requested (R89). -/
def State.refresh (s : State) (n : Octet) : State :=
  (s.mapClaim n fun c => { c with refreshTaken := true }).requestAnnounce n

/-- REFRESH_DUE (R89). -/
def execRefreshDue (n : Octet) (s : State) : Result :=
  .next (if s.refreshReady n then s.refresh n else s)

/-- LAPSE_POINT (R92). -/
def execLapsePoint (n : Octet) (s : State) : Result := .next (s.lapseIfDue n)

/-! ### Peer entries (R77, R81) -/

/-- An entry has this key (R77). -/
def PeerEntry.keyed (e : PeerEntry) (station : Nat) (n : Octet) : Bool :=
  e.station == station && e.number == n

/-- The entry with this key. -/
def State.peerEntry (s : State) (station : Nat) (n : Octet) : Option PeerEntry :=
  s.claims.peers.find? fun e => e.keyed station n

/-- The state with this peer claim table. -/
def State.withPeers (s : State) (peers : List PeerEntry) : State :=
  { s with claims := { s.claims with peers := peers } }

/-- An entry is removed, which is re-evaluated under R83. -/
def State.removePeer (s : State) (station : Nat) (n : Octet) : State :=
  (s.withPeers (s.claims.peers.filter fun e => !e.keyed station n)).reevaluate

/-- The expiry time of the entry with this key is reached (R81). -/
def State.peerReady (s : State) (station : Nat) (n : Octet) : Bool :=
  !s.inRestart && (s.peerEntry station n).any fun e => reached s.now e.expiry

/-- PEER_ENTRY_EXPIRY (R81). -/
def execPeerEntryExpiry (station : Nat) (n : Octet) (s : State) : Result :=
  .next (if s.peerReady station n then s.removePeer station n else s)

/-! ### The announce of an OWED claim (R73, R104) -/

/-- The older claim whose announce is OWED. -/
def State.owedClaim (s : State) : Option OwnClaim :=
  s.claims.own.find? fun c => c.announce == .owed

/-- The OWED claim that a free urgent place goes to (R73, R104). -/
def State.claimToQueue (s : State) : Option OwnClaim :=
  if !s.inRestart && s.urgentFree then s.owedClaim else none

/-- CLAIM_ANNOUNCE_QUEUED (R73). -/
def execClaimAnnounceQueued (s : State) : Result :=
  .next
    (match s.claimToQueue with
    | none => s
    | some c => s.queueClaim c.number)

end Sys2Proof.Machine
end

