-- ==== Sys2Proof/Machine/Notices.lean ====
section
/-! DEFINITION. The notice processor: the frame taken, its checks, and what each kind does (R78 to R80,
R115 to R117, R121), and the end of view doubt (R123). -/

namespace Sys2Proof.Machine

/-! ### Arrival times (R100) -/

/-- The full arrival time of a frame: the latest local time at or before now with these low 16 bits. -/
def fullArrival (now : LocalTime) (low : BitVec 16) : LocalTime :=
  now - (now.setWidth 16 - low).setWidth 32

/-! ### CLAIM and RELEASE (R78 to R80) -/

/-- A CLAIM's content is in range (R78). -/
def goodClaim (precedence : Nat) (cells : List Nat) : Bool :=
  precedence ≤ 2046 && 1 ≤ cells.length && cells.length ≤ 16 && cells.all (· ≤ 16383)

/-- The table without the oldest entry of a station (R79, case 2). -/
def dropOldest (station : Nat) (peers : List PeerEntry) : List PeerEntry :=
  peers.eraseP fun e => e.station == station

/-- A checked CLAIM entered in the table (R79): the table after it, or none if the CLAIM is dropped. -/
def enterPeer (now : LocalTime) (e : PeerEntry) (peers : List PeerEntry) : Option (List PeerEntry) :=
  if peers.any fun x => x.keyed e.station e.number then
    some (peers.map fun x => if x.keyed e.station e.number then e else x)
  else if 2 ≤ peers.countP fun x => x.station == e.station then
    some (dropOldest e.station peers ++ [e])
  else if peers.length < Config.peerCapacity then some (peers ++ [e])
  else
    let live := peers.filter fun x => !reached now x.expiry
    if live.length < Config.peerCapacity then some (live ++ [e]) else none

/-- A checked CLAIM (R78, R79): one already expired removes its entry, one that finds no place starts
view doubt. -/
def State.enterClaim (s : State) (e : PeerEntry) : State :=
  if reached s.now e.expiry then
    if (s.peerEntry e.station e.number).isSome then s.removePeer e.station e.number else s
  else
    match enterPeer s.now e s.claims.peers with
    | some peers => (s.withPeers peers).reevaluate
    | none => s.startDoubt

/-- A CLAIM notice (R78). One with the own station number is ignored, and starts no view doubt even where
its content is malformed too: of the two bullets of R78 that it meets the first is taken, DESIGN CHOICE
(log 29). -/
def State.takeClaim (s : State) (sender : Nat) (arrival : LocalTime) (number state : Octet)
    (precedence hold : Nat) (cells : List Nat) : State :=
  if sender = s.cfg.station then s
  else
    match ClaimState.ofCode state with
    | none => s.startDoubt
    | some st =>
      if goodClaim precedence cells then
        s.enterClaim
          { station := sender, number := number, state := st, precedence := precedence,
            cells := cells, expiry := later arrival hold }
      else s.startDoubt

/-- A RELEASE notice (R80). -/
def State.takeRelease (s : State) (sender : Nat) (number : Octet) : State :=
  if (s.peerEntry sender number).isSome then s.removePeer sender number else s

/-! ### Frames (R116, R117) -/

/-- A notice passed on by kind and site state (R117). -/
def State.passNotice (s : State) (sender : Nat) (arrival : LocalTime) (n : Notice) : State :=
  match n with
  | .claim number state precedence hold cells =>
    if s.site.state.onSite then
      s.takeClaim sender arrival number state precedence.toNat hold.toNat (cells.map BitVec.toNat)
    else s
  | .release number => if s.site.state.onSite then s.takeRelease sender number else s
  | .laid wall height entries => s.applyLaid sender wall.toNat height.toNat entries
  | .survey wall => if s.site.state.joined then s.surveyed (WallSelect.ofCode wall) else s

/-- Checks 4 to 8 of R116, made after a station clash has been put in. -/
def State.readNotice (s : State) (sender : Nat) (arrival : LocalTime) (kind : Octet)
    (body : List Octet) : State :=
  match decodeNotice kind body with
  | none => s.startDoubt
  | some n => s.passNotice sender arrival n

/-- A frame taken (R116): an echo is discarded, a sender out of range is malformed, this station's own
number is a clash while it is on the site (R121). -/
def State.applyFrame (s : State) (f : StoredFrame) : State :=
  if f.echo then s
  else
    match f.octets with
    | sender :: kind :: body =>
      let n := sender.toNat
      if n < 1 || 30 < n then s.startDoubt
      else
        let t :=
          if n = s.cfg.station && s.site.state.onSite then s.addCause .stationClash else s
        t.readNotice n (fullArrival s.now f.arrival) kind body
    | _ => s.startDoubt

/-- A claim that waits for the frame at this position is told that it is finished (R119). -/
def OwnClaim.told (position : Nat) (c : OwnClaim) : OwnClaim :=
  if c.decision = .waitingFor position then { c with decision := .due } else c

/-- The frame in hand is finished: the read position moves past it, the fill is judged, and a claim that
waits for it is told (R115, R119). -/
def State.finishFrame (s : State) (position : Nat) (f : StoredFrame) : State :=
  let t :=
    (s.withRx
        { s.rx with
          frames := s.rx.frames.tail
          readPos := (position + f.size) % Config.storeCapacity }).judgeLag
  ({ t with notice := { t.notice with processing := none } } : State).withOwn
    (t.claims.own.map (OwnClaim.told position))

/-- A frame is taken, applied and finished (R115, R118). -/
def State.processFrame (s : State) (f : StoredFrame) : State :=
  let t : State := { s with notice := { s.notice with processing := some s.rx.readPos } }
  (t.applyFrame f).finishFrame s.rx.readPos f

/-- The frame the notice processor can take (R115). -/
def State.frameWaiting (s : State) : Option StoredFrame :=
  if s.linkActive && s.notice.processing.isNone then s.rx.frames.head? else none

/-- NOTICE_TAKE (R115): a FIRM decision whose frame is finished is taken before the next frame (R86,
log 16). -/
def execNoticeTake (s : State) : Result :=
  .next
    (match s.frameWaiting with
    | none => s
    | some f => s.takeDecision.processFrame f)

/-! ### View doubt (R123) -/

/-- View doubt's due time is reached (R123). -/
def State.doubtReady (s : State) : Bool := !s.inRestart && reachedSome s.now s.notice.doubtDue

/-- View doubt turns off (R123, R124). -/
def State.endDoubt (s : State) : State :=
  ({ s with notice := { s.notice with doubtDue := none } } : State).oweSite.evalHead

/-- VIEW_DOUBT_EXPIRY (R123). -/
def execViewDoubtExpiry (s : State) : Result := .next (if s.doubtReady then s.endDoubt else s)

end Sys2Proof.Machine
end

