-- ==== Sys2Proof/Machine/Transmit.lean ====
section
/-! DEFINITION. The link transmitter's events: the arbiter, attempts, collisions, backoff and completion
(R105 to R111). -/

namespace Sys2Proof.Machine

/-! ### The arbiter (R105, R112, R113) -/

/-- The urgent record the arbiter takes and the queue behind it: CLAIM records whose claim has left the
list are discarded (R105). -/
def State.urgentTake (s : State) : List UrgentRecord → Option UrgentRecord × List UrgentRecord
  | [] => (none, [])
  | .release n :: rest => (some (.release n), rest)
  | .claim n :: rest =>
    if (s.ownClaim n).isSome then (some (.claim n), rest) else s.urgentTake rest

/-- The frame of a CLAIM record, and the claim's announce NONE (R73, R105). -/
def State.buildClaim (s : State) (n : Octet) : State :=
  match s.ownClaim n with
  | none => s
  | some c =>
    (s.mapClaim n fun c => { c with announce := .nothing }).withCurrent
      (some (s.builtFrame (.claim n false) (s.claimNotice c)))

/-- The current frame built from an urgent record (R105). -/
def State.buildUrgent (s : State) : UrgentRecord → State
  | .claim n => s.buildClaim n
  | .release n => s.withCurrent (some (s.builtFrame (.release n) (.release n)))

/-- An own-announce record leaves the queue and its LAID frame is built (R13, R112). -/
def State.buildAnnounce (s : State) (w : Nat) (rest : List BulkRecord) : State :=
  let records := s.announceRecords w
  (s.withBulk rest).withCurrent
    (some (s.builtFrame (.ownAnnounce w (ownSlots records)) (s.laidNotice w records)))

/-- The next LAID frame of a survey answer is built, its record staying at the head (R113, R128). -/
def State.buildAnswer (s : State) (w : Nat) (cursor : Option Slot) : State :=
  let records := s.answerRecords w cursor
  (s.setAnswer w .answering).withCurrent
    (some
      (s.builtFrame (.answer w (ownSlots records) (records.getLast?.map SlotRecord.slot))
        (s.laidNotice w records)))

/-- A SURVEY record leaves the queue and its frame is built from the pending notice, which is then no
longer pending (R130). -/
def State.buildSurvey (s : State) (rest : List BulkRecord) : State :=
  let t := s.withBulk rest
  match s.notice.survey with
  | none => t
  | some p =>
    ({ t with notice := { t.notice with survey := none } } : State).withCurrent
      (some (s.builtFrame (.survey p.select) (.survey p.select.code)))

/-- The current frame built from the head of the bulk queue (R105). -/
def State.buildBulk (s : State) : State :=
  match s.tx.bulk with
  | [] => s
  | .ownAnnounce w :: rest => s.buildAnnounce w rest
  | .answer w cursor :: _ => s.buildAnswer w cursor
  | .survey :: rest => s.buildSurvey rest

/-- The arbiter takes a record (R105); a place freed in the urgent queue is told to the admission
controller (R104, R44). -/
def State.arbitrate (s : State) : State :=
  match s.urgentTake s.tx.urgent with
  | (some r, rest) => ((s.withUrgent rest).buildUrgent r).evalHead
  | (none, rest) => (s.withUrgent rest).buildBulk.evalHead

/-- The arbiter can take a record: no frame is current and a queue is not empty (R105). -/
def State.arbiterReady (s : State) : Bool :=
  s.linkActive && s.tx.current.isNone && !(s.tx.urgent.isEmpty && s.tx.bulk.isEmpty)

/-- ARBITER_TAKE (R105). -/
def execArbiterTake (s : State) : Result := .next (if s.arbiterReady then s.arbitrate else s)

/-! ### Attempts (R106 to R109) -/

/-- A current frame waits for idle and the line is idle (R106). -/
def State.attemptReady (s : State) : Bool :=
  s.linkActive && s.rx.idleCount == Config.idleBits
    && s.tx.current.any fun f => f.phase == .waiting

/-- The current frame, rewound to its delimiter, in this phase (R106 to R108). -/
def State.withSendPhase (s : State) (phase : SendPhase) : State :=
  s.withCurrent (s.tx.current.map fun f => { f with sent := 0, phase := phase })

/-- ATTEMPT_START (R106): TXEN is asserted, and the start bit ends the idle line. -/
def execAttemptStart (s : State) : Result :=
  .next (if s.attemptReady then (s.withIdle 0).withSendPhase .sending else s)

/-- The frame being sent (R106). -/
def State.sentFrame (s : State) : Option CurrentFrame :=
  if s.linkActive then s.tx.current.filter fun f => f.phase == .sending else none

/-- The ten levels of an octet in line order, true recessive: the start bit, the data bits from the least
significant, and the stop bit (R93). -/
def octetLevels (o : Octet) (stopRecessive : Bool) : List Bool :=
  false :: ([0, 1, 2, 3, 4, 5, 6, 7].map fun i => o.getLsbD i) ++ [stopRecessive]

/-- The levels of a frame in line order (R93, R94). -/
def frameLevels (octets : List Octet) : List Bool := octets.flatMap fun o => octetLevels o true

/-- The level on TXD at a bit of the frame being sent, bit 0 the start bit of its delimiter (R93, R106). -/
def State.txd (s : State) (bit : Nat) : Option Bool :=
  s.sentFrame.bind fun f => (frameLevels f.octets)[bit]?

/-- Of two frames begun on the same idle the first keeps the line: at the first bit, in line order, on
which they differ it sends the dominant level (R189). -/
def keepsLine : List Bool → List Bool → Bool
  | a :: as, b :: bs => if a = b then keepsLine as bs else b
  | [], _ => false
  | _, [] => false

/-- TXEN is deasserted in the middle of a frame: what is being received is no echo (R99, R107). -/
def State.breakEcho (s : State) : State := s.withPhase s.rx.phase.loseEcho

/-- A collision of the frame being sent (R107, R108, R110): the tenth drops it, one without retry
discards it, any other rewinds it and begins a backoff. -/
def State.collide (s : State) (f : CurrentFrame) : State :=
  let k := f.collisions + 1
  let t := s.breakEcho
  if Config.attemptLimit ≤ k then (t.withCurrent none).frameDropped f
  else if s.noRetry f then (t.withCurrent none).frameDiscarded f
  else
    ({ t with freeCount := s.freeCount + 1 } : State).withCurrent
      (some
        { f with
          sent := 0
          collisions := k
          phase := .backoff (backoffSlots k (Config.backoffDraw s.freeCount)) })

/-- COLLISION (R107): a mismatch on a bit of the octet going out, whichever bit shows it and whatever
makes it, another station's frame (R189), a fault or noise; a frame sent whole meets none. -/
def execCollision (s : State) : Result :=
  .next
    (match s.sentFrame with
    | none => s
    | some f => if f.sent < f.octets.length then s.collide f else s)

/-- What RXD has shown in the time of one octet is compared with the octet going out (R106): one that
agrees has been sent, any other is a mismatch in one of its bits. With no octet going out nothing is
compared. -/
def State.compareOctet (s : State) (agrees : Octet → Bool) : State :=
  match s.sentFrame with
  | none => s
  | some f =>
    match f.octets[f.sent]? with
    | none => s
    | some o =>
      if agrees o then s.withCurrent (some { f with sent := f.sent + 1 }) else s.collide f

/-- A current frame is in backoff (R108). -/
def CurrentFrame.backsOff (f : CurrentFrame) : Bool :=
  match f.phase with
  | .backoff _ => true
  | .waiting | .sending => false

/-- BACKOFF_END (R108): the frame waits for idle. -/
def execBackoffEnd (s : State) : Result :=
  .next
    (if s.linkActive && s.tx.current.any CurrentFrame.backsOff then s.withSendPhase .waiting else s)

/-- The whole of the frame being sent has gone out without a mismatch (R109). -/
def State.wholeFrame (s : State) : Option CurrentFrame :=
  s.sentFrame.filter fun f => f.octets.length ≤ f.sent

/-- SEND_COMPLETION (R109): TXEN is deasserted and the outcome is handed on (R111). -/
def execSendCompletion (s : State) : Result :=
  .next
    (match s.wholeFrame with
    | none => s
    | some f => (s.withCurrent none).frameSent f)

end Sys2Proof.Machine
end

