-- ==== Sys2Proof/Machine/Receive.lean ====
section
/-! DEFINITION. The link receiver's events: octets, idle, arrivals and drops (R95 to R99). A station hears
its own frames: what RXD shows is first compared with the octet going out (R106). -/

namespace Sys2Proof.Machine

/-- OCTET_RECEIVED (R95): the octet is compared with the one going out (R106), the idle count is what its
last bits leave (R93), and it is treated by the receiver's state. -/
def execOctetReceived (octet : Octet) (stopRecessive : Bool) (s : State) : Result :=
  .next
    (if s.linkActive then
      ((s.compareOctet fun o =>
        octetLevels octet stopRecessive == octetLevels o true).withIdle
        (idleRun octet stopRecessive)).hearOctet octet stopRecessive
    else s)

/-- The line becomes idle (R95): GAP_WAIT hunts, a frame being received is dropped as truncated. -/
def State.lineIdle (s : State) : State :=
  let t := s.withIdle Config.idleBits
  match s.rx.phase with
  | .inactive => t
  | .hunt => t
  | .gapWait => t.withPhase .hunt
  | .length _ => t.dropFrame .hunt
  | .body _ => t.dropFrame .hunt
  | .check _ _ => t.dropFrame .hunt

/-- LINE_IDLE (R95); with an octet going out, whose start bit is dominant, it shows a mismatch (R106,
R107). -/
def execLineIdle (s : State) : Result :=
  .next
    (if s.linkActive && s.rx.idleCount < Config.idleBits then
      (s.compareOctet fun _ => false).lineIdle
    else s)

/-- The frame that a second CRC octet completes (R97). -/
def State.completes (s : State) (crcLow : Octet) : Option OpenFrame :=
  if s.linkActive then
    match s.rx.phase with
    | .check f (some hi) => if f.crc = word16 hi crcLow then some f else none
    | .check _ none => none
    | .inactive | .gapWait | .hunt | .length _ | .body _ => none
  else none

/-- FRAME_ARRIVAL (R97): the octet that completes the frame is compared like any other (R106). -/
def execFrameArrival (crcLow : Octet) (s : State) : Result :=
  let t := s.compareOctet fun o => octetLevels crcLow true == octetLevels o true
  .next
    (match t.completes crcLow with
    | none => s
    | some f => (t.withIdle (idleRun crcLow true)).arrive f)

/-- A frame can be dropped for this cause in this state of the receiver (R98). -/
def State.dropsFor (s : State) (cause : DropCause) : Bool :=
  s.linkActive
    && (match cause, s.rx.phase with
      | .badLength, .length _ => true
      | .crcMismatch, .check _ (some _) => true
      | .framing, p => p.receiving
      | .truncated, p => p.receiving
      | .overflow, .hunt => Config.storeCapacity < s.rx.fill + Config.statusOctets
      | .overflow, .body _ => Config.storeCapacity < s.rx.fill + 1
      | _, _ => false)

/-- A frame is dropped for a cause (R98): truncation leaves the line idle and the receiver in HUNT, any
other cause leaves it in GAP_WAIT. -/
def State.dropFor (s : State) (cause : DropCause) : State :=
  match cause with
  | .truncated => (s.withIdle Config.idleBits).dropFrame .hunt
  | .badLength => (s.withIdle 0).dropFrame .gapWait
  | .crcMismatch => (s.withIdle 0).dropFrame .gapWait
  | .framing => (s.withIdle 0).dropFrame .gapWait
  | .overflow =>
    if s.rx.phase = .hunt then (s.withIdle 0).dropStatus else (s.withIdle 0).dropFrame .gapWait

/-- FRAME_DROP (R98). An octet going out is one of a whole frame, so that every cause but overflow shows
a mismatch; the octet that overflows the store is the one sent (log 22). -/
def execFrameDrop (cause : DropCause) (s : State) : Result :=
  .next
    (if s.dropsFor cause then (s.compareOctet fun _ => cause == .overflow).dropFor cause else s)

end Sys2Proof.Machine
end

