-- ==== Sys2Proof/Machine/Cure.lean ====
section
/-! DEFINITION. The cure unit: SET-CURE and the cure tick (R24, R25, R28 to R31). -/

namespace Sys2Proof.Machine

/-! ### SET-CURE (R24, R25) -/

/-- A class rewritten by SET-CURE; its accumulator is not changed (R25). -/
def CureClass.configure (c : CureClass) (datum : Int) (threshold : Nat) : CureClass :=
  { c with datum := datum, threshold := threshold, configured := true }

/-- The state with a cure class rewritten. -/
def State.mapClass (s : State) (k : Nat) (f : CureClass → CureClass) : State :=
  { s with cure := { s.cure with classes := s.cure.classes.modify k f } }

/-- An accepted SET-CURE: a lowered threshold makes the conversion walk (R25). -/
def State.acceptCure (s : State) (k : Nat) (datum : Int) (threshold : Nat) : State :=
  let t := s.mapClass k fun c => c.configure datum threshold
  if threshold < (s.cureClass k).threshold then t.conversionWalk k else t

/-- The checks of R24: the code that refuses a SET-CURE, if one does. -/
def State.cureRefusal (s : State) (cls : Octet) (datum : Word16) (threshold : BitVec 32) :
    Option AnswerCode :=
  if !s.site.state.offline then some .badState
  else if 3 < cls.toNat then some .badValue
  else if datum.toInt < -80 || 80 < datum.toInt then some .badValue
  else if threshold.toNat < 1 || 16777215 < threshold.toNat then some .badValue
  else none

/-- The checks of R24 and the effect of R25. -/
def State.replySetCure (cls : Octet) (datum : Word16) (threshold : BitVec 32) (s : State) : Reply :=
  match s.cureRefusal cls datum threshold with
  | some code => s.refuse code
  | none => (s.acceptCure cls.toNat datum.toInt threshold.toNat).accept

/-- SET_CURE (R24, R25). -/
def execSetCure (cls : Octet) (datum : Word16) (threshold : BitVec 32) (s : State) : Result :=
  s.onRequest (.setCure cls datum threshold) .setCure (State.replySetCure cls datum threshold)

/-- A request makes a conversion walk: an accepted SET-CURE that lowers its class's threshold (R25). -/
def State.walksFor (s : State) (r : Instr) : Bool :=
  match r with
  | .setCure cls datum threshold =>
    (s.cureRefusal cls datum threshold).isNone
      && threshold.toNat < (s.cureClass cls.toNat).threshold
  | .transferBegin | .transferEnd _ | .setSite _ | .setWall _ | .setLimits _ | .start | .stop
  | .place _ | .withdraw _ | .seated _ | .clear _ | .resume | .surveyRequest _ | .readSlot _ _ _
  | .readSite | .frameArrival _ | .frameDrop _ | .noticeTake | .arbiterTake | .attemptStart
  | .collision | .backoffEnd | .sendCompletion | .claimAnnounceQueued | .ownAnnounceQueued
  | .surveyAnswerQueued | .surveyNoticeQueued | .settleExpiry | .firmDecision | .refreshDue _
  | .lapsePoint _ | .peerEntryExpiry _ _ | .supportWaitExpiry | .motionLimitExpiry | .linkHoldoffEnd
  | .viewDoubtExpiry | .surveyWindowClose _ | .listenTimerExpiry | .leaveTimerExpiry | .leavingEnd
  | .cureTick | .conversionComplete _ | .srefLost | .srefRegained | .windRisingEdge _
  | .windWindowEnd | .lstopFilterChange _ _ | .supplyWarnChange _ | .restartBegin _ | .powerOff
  | .restartEnd _ | .octetReceived _ _ | .lineIdle | .windFallingEdge _ => false

/-- A conversion walk is under way: its SET-CURE keeps the intake busy (R25, R164). -/
def State.walking (s : State) : Bool := s.port.intake.any s.walksFor

/-- A restart cuts a conversion walk: datum, threshold and mark stand as written, no record is walked and
no answer made (R37, R172). -/
def State.cutWalk (s : State) : State :=
  match s.port.intake with
  | some (.setCure cls datum threshold) =>
    if s.walksFor (.setCure cls datum threshold) then
      s.mapClass cls.toNat fun c => c.configure datum.toInt threshold.toNat
    else s
  | some _ => s
  | none => s

/-! ### The cure tick (R28 to R31) -/

/-- The maturity increment of a tick (R29). -/
def increment (ambient : Option Int) (datum : Int) : Nat :=
  match ambient with
  | none => 0
  | some t => min 240 (t - datum).toNat

/-- A class after the addition of a tick (R29). -/
def CureClass.advance (ambient : Option Int) (c : CureClass) : CureClass :=
  { c with accum := c.accum + BitVec.ofNat 32 (increment ambient c.datum) }

/-- The cure unit after the additions of a tick: the next tick is due 1,000 ms after this one's due time
(R28), and the cure-held mark is judged (R30). -/
def CureUnit.advance (u : CureUnit) (ambient : Option Int) : CureUnit :=
  { classes := u.classes.map (CureClass.advance ambient)
    tickDue := u.tickDue.map fun due => later due 1000
    held := ambient.isNone }

/-- A cure tick is due (R28); a conversion walk under way is completed before it (R25). -/
def State.tickReady (s : State) : Bool :=
  s.linkActive && reachedSome s.now s.cure.tickDue && !s.walking

/-- A cure tick: the additions, the cure-held mark, and the sweep (R29, R30, R31). -/
def State.cureTick (s : State) : State :=
  let t : State := { s with cure := s.cure.advance s.monitor.ambient }
  (t.oweSiteIf (s.cure.held != s.monitor.ambient.isNone)).sweep

/-- CURE_TICK (R29). -/
def execCureTick (s : State) : Result := .next (if s.tickReady then s.cureTick else s)

end Sys2Proof.Machine
end

