-- ==== Sys2Proof/Machine/Site.lean ====
section
/-! DEFINITION. Site configuration, the wall plan, joining and leaving (R3 to R5, R173 to R181). -/

namespace Sys2Proof.Machine

/-! ### SET-SITE (R175, R176) -/

/-- Every defined wall passes the grid check under these site values (R4). -/
def State.wallsFit (s : State) (c : SiteConfig) : Bool :=
  s.walls.all fun p =>
    match p.definition with
    | none => true
    | some d => d.gridCheck c.halfModule c.courseHeight c.cellEdge

/-- H, Hc or E differs between two configurations (R175). -/
def SiteConfig.geometryDiffers (a b : SiteConfig) : Bool :=
  a.halfModule != b.halfModule || a.courseHeight != b.courseHeight || a.cellEdge != b.cellEdge

/-- The site configuration written, with the site-set mark (R176). -/
def State.withConfig (s : State) (c : SiteConfig) : State :=
  { s with site := { s.site with config := some c } }

/-- The wind filter and the first wind window begin (R139, R140). -/
def Monitor.beginWind (m : Monitor) (windowDue : LocalTime) : Monitor :=
  { m with windLevel := none, windDiffer := 0, windCount := 0, windowDue := some windowDue }

/-- The blocks that wait for the first SET-SITE begin (R176): receiver and transmitter, scan, wind
filter and window, cure tick timer. -/
def State.beginBlocks (s : State) : State :=
  { s with
    rx := { s.rx with phase := .gapWait, idleCount := 0 }
    monitor :=
      { s.monitor.beginWind (s.after 250) with
        scan := if s.monitor.reference then some 0 else none }
    cure := { s.cure with tickDue := some (s.after 1000) } }

/-- A changed station number: own records take it in laid by (R9, R176). -/
def State.renumberOwn (s : State) (station : Nat) : State :=
  s.withRecords (s.map.records.map fun r => if r.own then { r with laidBy := station } else r)

/-- An accepted SET-SITE (R176). -/
def State.acceptSite (s : State) (c : SiteConfig) : State :=
  if s.site.state = .unconfigured then
    (((s.withConfig c).enterSite .configured).beginBlocks).evalHead
  else
    let t := (s.withConfig c).renumberOwn c.station
    if c.bitRate = s.cfg.bitRate then t else t.changeRate

/-- The checks of R175 and the effect of R176. -/
def State.replySetSite (f : SiteFields) (s : State) : Reply :=
  if !s.site.state.offline then s.refuse .badState
  else
    match takenConfig f with
    | none => s.refuse .badValue
    | some c =>
      if c.refresh ≤ c.settle then s.refuse .badValue
      else if s.site.state = .configured && c.geometryDiffers s.cfg && !s.wallsFit c then
        s.refuse .badValue
      else (s.acceptSite c).accept

/-- SET_SITE (R175, R176). -/
def execSetSite (f : SiteFields) (s : State) : Result :=
  s.onRequest (.setSite f) .setSite (State.replySetSite f)

/-! ### SET-WALL (R3) -/

/-- A wall may be replaced: it holds no record and its solid height is 0 (R3, check 3). -/
def State.replaceable (s : State) (w : Nat) : Bool :=
  (s.map.records.all fun r => r.slot.wall != w) && (s.wall w).solidHeight == 0

/-- A definition written into its place: an absent place starts with solid height 0 and its gap flag
clear, a replaced wall keeps its flag (R3). -/
def WallPlace.define (p : WallPlace) (d : WallDef) : WallPlace :=
  if p.definition.isSome then { p with definition := some d }
  else { p with definition := some d, solidHeight := 0, gap := false }

/-- The checks and the effect of SET-WALL (R3). -/
def State.replySetWall (f : WallFields) (s : State) : Reply :=
  if s.site.state ≠ .configured then s.refuse .badState
  else
    match takenDefinition f with
    | none => s.refuse .badValue
    | some d =>
      let w := f.wall.toNat
      if (s.wall w).definition.isSome && !s.replaceable w then s.refuse .badState
      else if d.gridCheck s.cfg.halfModule s.cfg.courseHeight s.cfg.cellEdge then
        (s.mapWall w fun p => p.define d).accept
      else s.refuse .badValue

/-- SET_WALL (R3). -/
def execSetWall (f : WallFields) (s : State) : Result :=
  s.onRequest (.setWall f) .setWall (State.replySetWall f)

/-! ### START (R177, R178) -/

/-- The configuration is complete (R177). -/
def State.complete (s : State) : Bool :=
  (s.walls.any fun p => p.definition.isSome)
    && s.walls.all fun p =>
      match p.definition with
      | none => true
      | some d => (s.cureClass d.cls).configured

/-- An accepted START, its changes at one moment (R178). -/
def State.acceptStart (s : State) : State :=
  let t : State :=
    { s with
      claims := { s.claims with peers := [], counter := 0 }
      site := { s.site with listenDue := some (s.after s.cfg.hold) }
      monitor := { s.monitor with windCount := 0, windowDue := some (s.after 250), gusts := [] }
      notice := { s.notice with survey := some { select := .all, queued := false } } }
  (t.enterSite .listening).reevaluate

/-- The checks and the effect of START (R177, R178). -/
def State.replyStart (s : State) : Reply :=
  if s.site.state ≠ .configured then s.refuse .badState
  else if s.complete then s.acceptStart.accept
  else s.refuse .badValue

/-- START (R177, R178). -/
def execStart (s : State) : Result := s.onRequest .start .start State.replyStart

/-! ### STOP (R180, R64) -/

/-- A placement is FIRM or SEATED, the arm in its cells (R180). -/
def PlacementState.inCells : PlacementState → Bool
  | .firm | .seated => true
  | .queued | .waitSupport | .waitCells | .announcing | .tentative | .done | .withdrawn
  | .failed => false

/-- Every placement in ANNOUNCING or TENTATIVE abandons its claim (R64, R52). -/
def State.abandonAnnounced (s : State) : State :=
  s.admission.queue.foldl (fun t p => if p.state.announced then t.abandonTag p.tag else t) s

/-- Every placement that is not terminal becomes FAILED with reason LEFT (R64). -/
def State.failAll (s : State) : State :=
  s.withQueue
    (s.admission.queue.map fun p => if p.state.terminal then p else p.changedTo (p.fail .left))

/-- An accepted STOP (R180): R64, the listen timer cancelled, LEAVING entered with its timer, and the
end condition tested at once. -/
def State.acceptStop (s : State) : State :=
  let t := s.abandonAnnounced.failAll
  let u : State :=
    { t with
      site := { t.site with listenDue := none, leaveDue := some (s.after s.cfg.hold) } }
  let v := (u.enterSite .leaving).reevaluate
  if v.leavingDone then v.endLeaving else v

/-- The checks and the effect of STOP (R180). -/
def State.replyStop (s : State) : Reply :=
  if !s.site.state.joined then s.refuse .badState
  else if s.admission.queue.any fun p => p.state.inCells then s.refuse .armInCells
  else s.acceptStop.accept

/-- STOP (R180). -/
def execStop (s : State) : Result := s.onRequest .stop .stop State.replyStop

/-! ### Timers of the site state and the end of LEAVING (R179, R181) -/

/-- The listen timer has expired in LISTENING (R179). -/
def State.listenReady (s : State) : Bool :=
  !s.inRestart && s.site.state == .listening && reachedSome s.now s.site.listenDue

/-- The station becomes ONLINE (R179). -/
def State.goOnline (s : State) : State :=
  (({ s with site := { s.site with listenDue := none } } : State).enterSite .online).evalHead

/-- LISTEN_TIMER_EXPIRY (R179). -/
def execListenTimerExpiry (s : State) : Result := .next (if s.listenReady then s.goOnline else s)

/-- The leave timer has expired in LEAVING (R181). -/
def State.leaveReady (s : State) : Bool :=
  !s.inRestart && s.site.state == .leaving && reachedSome s.now s.site.leaveDue

/-- The current frame at the expiry of the leave timer: an urgent one being sent finishes its attempt
with no retry, an urgent one that waits is discarded, a bulk one goes on (R181). -/
def State.dropUrgentCurrent (s : State) : State :=
  match s.tx.current with
  | none => s
  | some f =>
    if !f.source.urgent then s
    else if f.phase = .sending then s.withCurrent (some { f with lastAttempt := true })
    else (s.withCurrent none).frameDiscarded f

/-- The expiry of the leave timer (R181): the urgent queue is emptied and takes no record more. -/
def State.leaveExpires (s : State) : State :=
  let t : State := { s with site := { s.site with leaveDue := none, leaveExpired := true } }
  (t.withUrgent []).dropUrgentCurrent

/-- LEAVE_TIMER_EXPIRY (R181). -/
def execLeaveTimerExpiry (s : State) : Result :=
  .next (if s.leaveReady then s.leaveExpires else s)

/-- The end condition of LEAVING holds (R181). -/
def State.leavingReady (s : State) : Bool := !s.inRestart && s.leavingDone

/-- LEAVING_END (R181). -/
def execLeavingEnd (s : State) : Result := .next (if s.leavingReady then s.endLeaving else s)

end Sys2Proof.Machine
end

