-- ==== Sys2Proof/Machine/Restart.lean ====
section
/-! DEFINITION. Restarts (R183 and the restart tables of each block: R21, R37, R67, R82, R102, R114,
R134, R150, R160, R172, R182). -/

namespace Sys2Proof.Machine

/-! ### The beginning of a restart -/

/-- What holds the part, with a further cause (R183). -/
def RestartHold.add (h : RestartHold) : RestartCause → RestartHold
  | .resetPin => { h with resetLow := true }
  | .supplyCut => { h with supplyCut := true }

/-- Nothing holds the part. -/
def RestartHold.nothing : RestartHold := { resetLow := false, supplyCut := false, poweredOff := false }

/-- The stop controller when a restart begins: ARMSTOP asserted, so the latch is set, by the restart if
it was released (R154, R155). -/
def StopControl.restart (t : StopControl) : StopControl :=
  if t.latch then t else { t with latch := true, first := some .restart, seen := [] }

/-- A restart begins (R154, R172, R114): the transfer and the request being taken are abandoned, a SET-CURE
with its values written (R37), TXEN is deasserted and the transmit queues emptied, ARMSTOP suspends the
motion limit timers (log 25). -/
def State.beginRestart (s : State) : State :=
  let t := s.cutWalk
  ({ t with
      stop := t.stop.restart
      port := { t.port with transfer := none, intake := none }
      tx := { t.tx with urgent := [], bulk := [], current := none } } : State).suspendMotion

/-- RESTART_BEGIN (R183): a further cause joins a restart in progress. -/
def execRestartBegin (cause : RestartCause) (s : State) : Result :=
  .next
    (match s.supply.hold with
    | some h => { s with supply := { s.supply with hold := some (h.add cause) } }
    | none =>
      let t := s.beginRestart
      { t with supply := { t.supply with hold := some (RestartHold.nothing.add cause) } })

/-! ### Power-off (R182) -/

/-- A part powered off keeps no state (R182): the values of a cold start stand until it ends (log 17).
The pin SEL, the waiting commands and the free-value counter are not the part's. -/
def State.forget (s : State) : State :=
  { State.reset with
    port := { State.reset.port with selected := s.port.selected }
    freeCount := s.freeCount
    pending := s.pending }

/-- POWER_OFF (R182), while the part is held. -/
def execPowerOff (s : State) : Result :=
  .next
    (match s.supply.hold with
    | none => s
    | some h =>
      let t := s.forget
      { t with supply := { t.supply with hold := some { h with poweredOff := true } } })

/-! ### The end of a restart (R160, R183) -/

/-- The causes present at the end of a restart (R160). -/
def restartCauses (i : RestartInputs) : CauseSet :=
  { CauseSet.empty with
    stability := true, localStop := i.lstopLow, supplyLow := i.supplyBelowWarn }

/-- The stop controller at the end of a restart (R160). -/
def StopControl.afterRestart (t : StopControl) (i : RestartInputs) : StopControl :=
  { causes := restartCauses i, conflictStation := none, latch := true, first := some .restart,
    seen := (restartCauses i).toList, lstopStop := i.lstopLow, lstopDiffer := 0,
    lstopFilter := t.lstopFilter }

/-- The arm port at the end of a restart (R172). -/
def ArmPort.afterRestart (p : ArmPort) : ArmPort :=
  { selected := p.selected, transfer := none, intake := none, answer := none, requestsLost := false,
    stopOwed := true, stabilityOwed := true, siteOwed := true }

/-- What both kinds of restart take from the inputs at their end (R137, R160, R182, R172). -/
def State.takeInputs (s : State) (i : RestartInputs) : State :=
  { s with
    supply := { belowWarn := i.supplyBelowWarn, hold := none }
    monitor := { s.monitor with reference := i.referencePresent }
    stop := s.stop.afterRestart i
    port := s.port.afterRestart }

/-- The site state controller after a warm restart (R183). -/
def SiteControl.afterWarm (c : SiteControl) : SiteControl :=
  { state := if c.config.isSome then .configured else .unconfigured, config := c.config,
    listenDue := none, leaveDue := none, leaveExpired := false, restartKind := .warm }

/-- The monitor after a warm restart, before its blocks begin (R150): limits kept. -/
def Monitor.afterWarm (m : Monitor) : Monitor :=
  { State.reset.monitor with limits := m.limits }

/-- The receiver after a warm restart, before it begins: thresholds kept (R102). -/
def Receiver.afterWarm (r : Receiver) : Receiver :=
  { State.reset.rx with lagOn := r.lagOn, lagOff := r.lagOff }

/-- What a warm restart keeps and what it empties (R21, R37, R67, R82, R102, R114, R134, R150, R183). -/
def State.warmKept (s : State) : State :=
  { s with
    site := s.site.afterWarm
    walls := s.walls.map WallPlace.offSite
    cure := { s.cure with tickDue := none, held := false }
    admission := { s.admission with queue := [] }
    claims := State.reset.claims
    tx := State.reset.tx
    rx := s.rx.afterWarm
    notice := State.reset.notice
    monitor := s.monitor.afterWarm }

/-- The end of a warm restart: if the site-set mark is set the blocks begin again; then the restart walk
(R37). -/
def State.warmEnd (s : State) (i : RestartInputs) : State :=
  let t := s.warmKept.takeInputs i
  (if s.site.config.isSome then t.beginBlocks else t).sweep

/-- The end of a cold start (R183). -/
def State.coldEnd (s : State) (i : RestartInputs) : State := s.forget.takeInputs i

/-- RESTART_END (R183): COLD if the part was powered off since the restart began, else WARM. -/
def execRestartEnd (i : RestartInputs) (s : State) : Result :=
  .next
    (match s.supply.hold with
    | none => s
    | some h => if h.poweredOff then s.coldEnd i else s.warmEnd i)

end Sys2Proof.Machine
end

