-- ==== Sys2Proof/Machine/ArmPort.lean ====
section
/-! DEFINITION. The arm port (file 09): the beginning of a transfer, what SDO shifts out, and the requests
that read. Transfers end in Machine/Transfer.lean. -/

namespace Sys2Proof.Machine

/-! ### Beginning a transfer (R162) -/

/-- The place in the queue of the oldest placement whose report is owed. -/
def State.owedPlacement (s : State) : Option Nat :=
  s.admission.queue.findIdx? fun p => p.reportOwed

/-- The item a transfer sends: the first owed in the order of R162. -/
def State.chosenItem (s : State) : OutItem :=
  if s.port.answer.isSome then .answer
  else if s.port.stopOwed then .stop
  else if s.port.stabilityOwed then .stability
  else
    match s.owedPlacement with
    | some i => .placement i ((s.admission.queue[i]?.map fun p => p.state.terminal).getD false)
    | none => if s.port.siteOwed then .site else .null

/-- The frame built for an item (R162). -/
def State.itemFrame (s : State) : OutItem → List Octet
  | .null => nullFrame
  | .answer => (s.port.answer.map Answer.frame).getD nullFrame
  | .stop => s.stopReport
  | .stability => s.stabilityReport
  | .placement i _ => (s.admission.queue[i]?.map Placement.report).getD nullFrame
  | .site => s.siteReport

/-- The owed flag of an item set or cleared; an answer and the null frame have none (R162, R163). -/
def State.setOwed (s : State) (item : OutItem) (owed : Bool) : State :=
  match item with
  | .null | .answer => s
  | .stop => { s with port := { s.port with stopOwed := owed } }
  | .stability => { s with port := { s.port with stabilityOwed := owed } }
  | .placement i _ => s.withQueue (s.admission.queue.modify i fun p => { p with reportOwed := owed })
  | .site => { s with port := { s.port with siteOwed := owed } }

/-- The pin SEL, and the transfer in progress. -/
def State.withTransfer (s : State) (selected : Bool) (transfer : Option Transfer) : State :=
  { s with port := { s.port with selected := selected, transfer := transfer } }

/-- TRANSFER_BEGIN (R162): the item is chosen, its frame built and its owed flag cleared. In a restart
only the pin moves (R172); SEL already asserted begins nothing. -/
def execTransferBegin (s : State) : Result :=
  .next
    (if s.port.selected then s
    else if s.inRestart then s.withTransfer true none
    else
      let item := s.chosenItem
      (s.withTransfer true (some { item := item, frame := s.itemFrame item })).setOwed item false)

/-! ### SDO (R161, R172) -/

/-- The octet shifted out at a place of a transfer: the outgoing frame's, and past its end the fill octet 0
(R161). -/
def Transfer.octet (t : Transfer) (n : Nat) : Octet := t.frame.getD n 0

/-- What SDO shifts out at an octet place of the transfer in progress; absent while it is held at high
impedance: SEL deasserted, a restart in progress, or SEL held over from one (R161, R172, log 19). -/
def State.sdoOctet (s : State) (n : Nat) : Option Octet :=
  if s.inRestart || !s.port.selected then none else s.port.transfer.map fun t => t.octet n

/-- The level on SDO at a bit of the transfer, most significant bit of each octet first (R161). -/
def State.sdo (s : State) (bit : Nat) : Option Bool :=
  (s.sdoOctet (bit / 8)).map fun o => o.getMsbD (bit % 8)

/-! ### Requests that read (R170, R171) -/

/-- The checks and the answer of READ-SLOT (R170). -/
def State.replyReadSlot (wall course : Octet) (pos : Word16) (s : State) : Reply :=
  let slot : Slot := { wall := wall.toNat, course := course.toNat, pos := pos.toNat }
  if 15 < slot.wall || 63 < slot.course then s.refuse .badValue
  else
    match (s.wall slot.wall).definition with
    | none => s.refuse .badSlot
    | some d =>
      if d.inRange slot.course slot.pos then
        { state := s, code := .ok, content := .slot (s.slotView slot) }
      else s.refuse .badSlot

/-- READ_SLOT (R170). -/
def execReadSlot (wall course : Octet) (pos : Word16) (s : State) : Result :=
  s.onRequest (.readSlot wall course pos) .readSlot (State.replyReadSlot wall course pos)

/-- The answer of READ-SITE (R171). -/
def State.replyReadSite (s : State) : Reply :=
  { state := s, code := .ok, content := .site s.siteView }

/-- READ_SITE (R171). -/
def execReadSite (s : State) : Result := s.onRequest .readSite .readSite State.replyReadSite

end Sys2Proof.Machine
end

