-- ==== Sys2Proof/Machine/Placements.lean ====
section
/-! DEFINITION. The placement requests (R41, R42, R60 to R63) and the timers of placements (R47, R50,
R58). -/

namespace Sys2Proof.Machine

/-! ### PLACE (R41, R42) -/

/-- A tag is live (R39). -/
def State.liveTag (s : State) (tag : Octet) : Bool :=
  s.admission.queue.any fun p => p.tag == tag && !p.state.terminal

/-- A slot is the target of a record that is not terminal (R41, check 7). -/
def State.liveTarget (s : State) (slot : Slot) : Bool :=
  s.admission.queue.any fun p => p.target == slot && !p.state.terminal

/-- No value stands twice in a list. -/
def distinct : List Nat → Bool
  | [] => true
  | x :: xs => !xs.contains x && distinct xs

/-- Check 5 of R41: tag and cell list. -/
def goodCells (tag : Octet) (cells : List Nat) : Bool :=
  tag != 0 && !cells.isEmpty && cells.length ≤ 16 && distinct cells && cells.all (· ≤ 16383)

/-- The record an accepted PLACE appends (R38, R42), its motion limit clamped to 1..120 s. -/
def newPlacement (f : PlaceFields) : Placement :=
  { tag := f.tag, target := placeTarget f, cells := placeCells f, limit := clamp 1 120 f.limit.toNat,
    state := .queued, reason := none, yields := 0, blocking := none, missing := none,
    overrun := false, reportOwed := false, supportDue := none, motion := .stopped, holdoff := none }

/-- The checks of R41 that follow the wall's definition. -/
def State.placeCheck (s : State) (f : PlaceFields) (d : WallDef) : Option AnswerCode :=
  let slot := placeTarget f
  if !d.inRange slot.course slot.pos then some .badSlot
  else if !goodCells f.tag (placeCells f) then some .badValue
  else if !(placeCells f).contains (d.seatCell s.cfg slot.course slot.pos) then some .cellsMiss
  else if s.readSlot slot ≠ .vacant || s.liveTarget slot then some .slotTaken
  else none

/-- An accepted PLACE (R42). -/
def State.acceptPlace (s : State) (f : PlaceFields) : State :=
  (s.withQueue (s.admission.queue ++ [newPlacement f])).evalHead

/-- The checks of R41 and the effect of R42. -/
def State.replyPlace (f : PlaceFields) (s : State) : Reply :=
  if !s.site.state.joined then s.refuse .badState
  else if Config.queueCapacity ≤ s.admission.queue.length then s.refuse .queueFull
  else if s.liveTag f.tag then s.refuse .dupTag
  else
    match (s.wall f.wall.toNat).definition with
    | none => s.refuse .badSlot
    | some d =>
      match s.placeCheck f d with
      | some code => s.refuse code
      | none => (s.acceptPlace f).accept

/-- PLACE (R41, R42). -/
def execPlace (f : PlaceFields) (s : State) : Result :=
  s.onRequest (.place f) .place (State.replyPlace f)

/-! ### WITHDRAW, SEATED, CLEAR (R60, R62, R63) -/

/-- A request that names a placement by tag acts on the record resolved (R40). -/
def State.onPlacement (s : State) (tag : Octet) (act : Nat → Placement → Reply) : Reply :=
  match s.resolveTag tag with
  | none => s.refuse .noSuchTag
  | some i =>
    match s.admission.queue[i]? with
    | none => s.refuse .noSuchTag
    | some p => act i p

/-- The effect of WITHDRAW by the state of the record named (R60). -/
def State.withdrawAt (s : State) (i : Nat) (p : Placement) : Reply :=
  if p.state.waits then (s.mapPlacement i Placement.withdraw).evalHead.accept
  else if p.state.announced then
    ((s.abandonTag p.tag).mapPlacement i Placement.withdraw).reevaluate.accept
  else s.refuse .tooLate

/-- The checks and the effect of WITHDRAW (R60). -/
def State.replyWithdraw (tag : Octet) (s : State) : Reply := s.onPlacement tag s.withdrawAt

/-- WITHDRAW (R60). -/
def execWithdraw (tag : Octet) (s : State) : Result :=
  s.onRequest (.withdraw tag) .withdraw (State.replyWithdraw tag)

/-- The claim of a placement becomes SEATED and requests an announce (R90). -/
def State.seatClaim (s : State) (tag : Octet) : State :=
  match s.claimOf tag with
  | none => s
  | some c => (s.mapClaim c.number fun c => { c with state := .seated }).requestAnnounce c.number

/-- A placement becomes SEATED: its motion limit timer stops (R58, R62). -/
def Placement.seat (p : Placement) : Placement :=
  { p with state := .seated, reason := none, motion := .stopped }

/-- The effect of SEATED by the state of the record named (R62). -/
def State.seatAt (s : State) (i : Nat) (p : Placement) : Reply :=
  if p.state = .firm then
    (((s.ownInsert p.target).seatClaim p.tag).mapPlacement i Placement.seat).reevaluate.accept
  else s.refuse .notFirm

/-- The checks and the effect of SEATED (R62). -/
def State.replySeated (tag : Octet) (s : State) : Reply := s.onPlacement tag s.seatAt

/-- SEATED (R62). -/
def execSeated (tag : Octet) (s : State) : Result :=
  s.onRequest (.seated tag) .seated (State.replySeated tag)

/-- The current frame of a claim deleted by CLEAR: one being sent finishes, its outcome then discarded;
one that waits is discarded (R76, R110). -/
def State.orphanFrame (s : State) (n : Octet) : State :=
  match s.claimFrame n with
  | .none => s
  | .waiting => s.withCurrent none
  | .sending => s.withCurrent (s.tx.current.map fun f => { f with source := .claim n true })

/-- A claim deleted by CLEAR: its waiting record goes, its RELEASE is queued (R63, R76, log 13). -/
def State.clearClaim (s : State) (tag : Octet) : State :=
  match s.claimOf tag with
  | none => s
  | some c =>
    (((s.removeClaimRecords c.number).orphanFrame c.number).deleteClaim c.number).queueRelease
      c.number

/-- A placement is DONE (R63). -/
def Placement.done (p : Placement) : Placement :=
  { p with state := .done, reason := none, motion := .stopped }

/-- The effect of CLEAR by the state of the record named (R63, R92). -/
def State.clearAt (s : State) (i : Nat) (p : Placement) : Reply :=
  if p.state = .seated then
    ((s.clearClaim p.tag).mapPlacement i Placement.done).judgeLapse.reevaluate.accept
  else if p.state = .firm then
    ((s.clearClaim p.tag).mapPlacement i fun p => p.fail .abandoned).judgeLapse.reevaluate.accept
  else s.refuse .notFirm

/-- The checks and the effect of CLEAR (R63). -/
def State.replyClear (tag : Octet) (s : State) : Reply := s.onPlacement tag s.clearAt

/-- CLEAR (R63). -/
def execClear (tag : Octet) (s : State) : Result :=
  s.onRequest (.clear tag) .clear (State.replyClear tag)

/-! ### Timers of placements (R47, R50, R58) -/

/-- The support-wait due time of the head in WAIT_SUPPORT is reached (R47). -/
def Placement.supportExpired (now : LocalTime) (p : Placement) : Bool :=
  p.state == .waitSupport && reachedSome now p.supportDue

/-- The head whose support wait has expired (R47). -/
def State.expiredSupport (s : State) : Option Nat :=
  if s.inRestart then none
  else
    match s.headIndex with
    | none => none
    | some i =>
      if (s.admission.queue[i]?.any fun p => p.supportExpired s.now) then some i else none

/-- A head fails with SUPPORT_TIMEOUT, keeping its missing support slot (R47). -/
def Placement.timeOut (p : Placement) : Placement :=
  { p.fail .supportTimeout with missing := p.missing }

/-- SUPPORT_WAIT_EXPIRY (R47). -/
def execSupportWaitExpiry (s : State) : Result :=
  .next
    (match s.expiredSupport with
    | none => s
    | some i => (s.mapPlacement i Placement.timeOut).evalHead)

/-- A running motion limit of a FIRM placement is reached (R58). -/
def Placement.overruns (now : LocalTime) (p : Placement) : Bool :=
  p.state == .firm
    && (match p.motion with
      | .running due => reached now due
      | .stopped | .held _ => false)

/-- The placement whose motion limit has expired (R58). -/
def State.expiredMotion (s : State) : Option Nat :=
  if s.inRestart then none else s.admission.queue.findIdx? fun p => p.overruns s.now

/-- MOTION_LIMIT_EXPIRY (R58). -/
def execMotionLimitExpiry (s : State) : Result :=
  .next
    (match s.expiredMotion with
    | none => s
    | some i => s.mapPlacement i Placement.overran)

/-- The placement whose link holdoff has ended (R50). -/
def State.endedHoldoff (s : State) : Option Nat :=
  if s.inRestart then none
  else s.admission.queue.findIdx? fun p => reachedSome s.now p.holdoff

/-- LINK_HOLDOFF_END (R50): the holdoff is cleared and the head evaluated again. -/
def execLinkHoldoffEnd (s : State) : Result :=
  .next
    (match s.endedHoldoff with
    | none => s
    | some i => (s.mapPlacement i fun p => { p with holdoff := none }).evalHead)

end Sys2Proof.Machine
end

