-- ==== Sys2Proof/Machine/Stability.lean ====
section
/-! DEFINITION. The stability monitor: SET-LIMITS, the scan, the sensor reference, the wind and the
stability state (R27, R135 to R147). -/

namespace Sys2Proof.Machine

/-! ### SET-LIMITS (R142, R47, R101, R152) -/

/-- An accepted SET-LIMITS writes all its values together; view lag is judged at once (R101, R142). -/
def State.acceptLimits (s : State) (f : LimitFields) : State :=
  ({ s with
      monitor := { s.monitor with limits := takenLimits f }
      stop := { s.stop with lstopFilter := takenLstop f }
      admission := { s.admission with supportLimit := takenSupport f }
      rx := { s.rx with lagOn := takenLagOn f, lagOff := takenLagOff f } } : State).judgeLag

/-- The check and the effect of SET-LIMITS (R142). -/
def State.replySetLimits (f : LimitFields) (s : State) : Reply :=
  if s.site.state.offline then (s.acceptLimits f).accept else s.refuse .badState

/-- SET_LIMITS (R142). -/
def execSetLimits (f : LimitFields) (s : State) : Result :=
  s.onRequest (.setLimits f) .setLimits (State.replySetLimits f)

/-! ### Rings and means (R27, R135, R136, R138) -/

/-- A new sample replaces the oldest entry (R135). -/
def Ring.push (r : Ring) (code : Nat) : Ring := { a := r.b, b := r.c, c := r.d, d := some code }

/-- The four codes of a valid ring (R135). -/
def Ring.codes (r : Ring) : Option (List Nat) :=
  match r.a, r.b, r.c, r.d with
  | some a, some b, some c, some d => some [a, b, c, d]
  | _, _, _, _ => none

/-- The mean of a ring: the sum of its codes divided by 4, truncated (R136). -/
def Ring.mean (r : Ring) : Option Nat := r.codes.map fun l => l.sum / 4

/-- The deviation of a mean from 512 (R138). -/
def deviation (mean : Nat) : Nat := if mean ≤ 512 then 512 - mean else mean - 512

/-- The ambient temperature of a ring: invalid if an entry is invalid, or is the code 0 or 1023 (R27). -/
def Ring.temperature (r : Ring) : Option Int :=
  match r.codes with
  | none => none
  | some l =>
    if l.any fun c => c == 0 || c == 1023 then none else some (((l.sum / 4 / 2 : Nat) : Int) - 200)

/-- A code written into the ring of a channel (R135). -/
def Monitor.write (m : Monitor) (channel code : Nat) : Monitor :=
  if channel = 0 then { m with ring0 := m.ring0.push code }
  else if channel = 1 then { m with ring1 := m.ring1.push code }
  else if channel = 2 then { m with ring2 := m.ring2.push code }
  else { m with ring3 := m.ring3.push code }

/-- The temperature and the measures formed from the rings (R136, R138). -/
def Monitor.measure (m : Monitor) : Monitor :=
  { m with
    ambient := m.ring3.temperature
    inclineX := m.ring0.mean.map deviation
    inclineY := m.ring1.mean.map deviation
    strain := m.ring2.mean }

/-! ### The stability state (R144 to R147) -/

/-- A value that exists and is at or above a level. -/
def atOrAbove (value : Option Nat) (level : Nat) : Bool :=
  match value with
  | none => false
  | some v => level ≤ v

/-- A value that exists and is below a level. -/
def isBelow (value : Option Nat) (level : Nat) : Bool :=
  match value with
  | none => false
  | some v => v < level

/-- A halt condition holds (R144). -/
def Monitor.halts (m : Monitor) : Bool :=
  atOrAbove m.gust m.limits.gustHaltOn
    || atOrAbove m.inclineX m.limits.inclineOn || atOrAbove m.inclineY m.limits.inclineOn
    || atOrAbove m.strain m.limits.strainOn
    || m.inclineX.isNone || m.inclineY.isNone || m.strain.isNone

/-- The conditions that let HALTED become PAUSED (R145). -/
def Monitor.leavesHalt (m : Monitor) : Bool :=
  isBelow m.gust m.limits.gustHaltOff
    && isBelow m.inclineX m.limits.inclineOff && isBelow m.inclineY m.limits.inclineOff
    && isBelow m.strain m.limits.strainOff

/-- The conditions that make CALM PAUSED (R146). -/
def Monitor.pauses (m : Monitor) : Bool :=
  atOrAbove m.gust m.limits.gustPauseOn || m.ambient.isNone

/-- The conditions of wind and temperature that let PAUSED become CALM (R147). -/
def Monitor.calms (m : Monitor) : Bool := isBelow m.gust m.limits.gustPauseOff && m.ambient.isSome

/-- The dwell that starts when HALTED becomes PAUSED (R145). -/
def State.newDwell (s : State) : Option LocalTime :=
  if s.monitor.limits.dwell = 0 then none else some (s.after (s.monitor.limits.dwell * 1000))

/-- A running dwell after an evaluation in PAUSED: it ends if its due time is reached (R147). -/
def State.dwellAfter (s : State) : Option LocalTime :=
  if reachedSome s.now s.monitor.dwellDue then none else s.monitor.dwellDue

/-- An evaluation of the stability state: at most one change (R144 to R147). A halt condition cancels any
dwell, and so does a loss of the reference, which is one (R137, R144, R145); the dwell of R147 whose due time
passes while the reference is lost does not arise: DEDUCED, unsafe (log 33). -/
def State.evaluateStability (s : State) : State :=
  if s.monitor.halts then (s.withDwell none).setStability .halted
  else
    match s.monitor.state with
    | .halted =>
      if s.monitor.leavesHalt then (s.withDwell s.newDwell).setStability .paused else s
    | .calm => if s.monitor.pauses then s.setStability .paused else s
    | .paused =>
      let t := s.withDwell s.dwellAfter
      if s.monitor.calms && s.dwellAfter.isNone then t.setStability .calm else t

/-- The stability state is evaluated unless it is held at HALTED (R143). -/
def State.evaluateIfJoined (s : State) : State :=
  if s.site.state.onSite then s.evaluateStability else s

/-! ### The scan (R135, R136) -/

/-- A conversion of the scan is written; channel 3 ends the round (R135, R136). -/
def State.convert (s : State) (channel code : Nat) : State :=
  let m := s.monitor.write channel code
  if channel < 3 then { s with monitor := { m with scan := some (channel + 1) } }
  else ({ s with monitor := { m.measure with scan := some 0 } } : State).evaluateIfJoined

/-- CONVERSION_COMPLETE (R135). -/
def execConversionComplete (code : BitVec 10) (s : State) : Result :=
  .next
    (if s.inRestart then s
    else
      match s.monitor.scan with
      | none => s
      | some channel => s.convert channel code.toNat)

/-! ### The sensor reference (R137) -/

/-- The rings and what is formed from them, invalid (R137). -/
def Monitor.invalidate (m : Monitor) : Monitor :=
  { m with
    ring0 := .invalid, ring1 := .invalid, ring2 := .invalid, ring3 := .invalid
    inclineX := none, inclineY := none, strain := none, ambient := none }

/-- The reference is lost: the scan stops and the state is evaluated at once (R137). -/
def State.loseReference (s : State) : State :=
  ({ s with monitor := { s.monitor.invalidate with reference := false, scan := none } }
    : State).evaluateIfJoined

/-- SREF_LOST (R137). The comparison is followed in UNCONFIGURED too, where the scan may not run and R137
does not speak of it: DESIGN CHOICE, unsafe (log 32). -/
def execSrefLost (s : State) : Result :=
  .next (if !s.inRestart && s.monitor.reference then s.loseReference else s)

/-- The reference is regained: the scan begins anew at channel 0 (R137). -/
def State.regainReference (s : State) : State :=
  { s with
    monitor :=
      { s.monitor with
        reference := true
        scan := if s.site.state = .unconfigured then none else some 0 } }

/-- SREF_REGAINED (R137), followed in UNCONFIGURED too (log 32). -/
def execSrefRegained (s : State) : Result :=
  .next (if !s.inRestart && !s.monitor.reference then s.regainReference else s)

/-! ### Wind (R139 to R141) -/

/-- One sample of the WIND filter (R139); a change from low to high is a rising edge, which the window
counts (R140). -/
def Monitor.sampleWind (high : Bool) (m : Monitor) : Monitor :=
  match m.windLevel with
  | none => { m with windLevel := some high, windDiffer := 0 }
  | some level =>
    if high = level then { m with windDiffer := 0 }
    else if m.limits.windFilter + 1 ≤ m.windDiffer + 1 then
      { m with
        windLevel := some high, windDiffer := 0, windCount := m.windCount + high.toNat }
    else { m with windDiffer := m.windDiffer + 1 }

/-- A run of samples of one level. -/
def Monitor.sampleRun (high : Bool) : Nat → Monitor → Monitor
  | 0, m => m
  | n + 1, m => Monitor.sampleRun high n (m.sampleWind high)

/-- WIND reads a level on consecutive samples, while the filter runs (R139). -/
def State.hearWind (s : State) (high : Bool) (samples : Nat) : State :=
  if s.linkActive then { s with monitor := s.monitor.sampleRun high samples } else s

/-- WIND_RISING_EDGE (R140). -/
def execWindRisingEdge (samples : Nat) (s : State) : Result := .next (s.hearWind true samples)

/-- WIND_FALLING_EDGE (R139). -/
def execWindFallingEdge (samples : Nat) (s : State) : Result := .next (s.hearWind false samples)

/-- The speed of a window (R141). -/
def windSpeed (count factor : Nat) : Nat := min 999 (4 * count * factor / 100)

/-- A speed joins the newest end of the gust history, which keeps the last 12 (R141). -/
def joinGusts (gusts : List Nat) (speed : Nat) : List Nat :=
  (gusts ++ [speed]).drop (gusts.length + 1 - 12)

/-- A wind window ends and the next begins (R140, R141). -/
def Monitor.endWindow (m : Monitor) : Monitor :=
  { m with
    windCount := 0
    windowDue := m.windowDue.map fun due => later due 250
    gusts := joinGusts m.gusts (windSpeed m.windCount m.limits.factor) }

/-- A wind window has reached its end (R140). -/
def State.windReady (s : State) : Bool := s.linkActive && reachedSome s.now s.monitor.windowDue

/-- WIND_WINDOW_END (R141). -/
def execWindWindowEnd (s : State) : Result :=
  .next (if s.windReady then { s with monitor := s.monitor.endWindow } else s)

end Sys2Proof.Machine
end

