-- ==== Sys2Proof/Machine/Stop.lean ====
section
/-! DEFINITION. The stop controller: RESUME, the LSTOP filter and the warn comparison of the supply
(R152, R153, R156, R158, R182). -/

namespace Sys2Proof.Machine

/-! ### RESUME (R156, R158) -/

/-- The stop record emptied and the latch released (R155, R156). -/
def StopControl.release (t : StopControl) : StopControl :=
  { t with latch := false, first := none, seen := [] }

/-- ARMSTOP is released (R156, R158): motion limit timers run on, one held at 0 ms expiring at once, the
head is evaluated, a stop report is owed. -/
def State.releaseStop (s : State) : State :=
  (({ s with stop := s.stop.release } : State).resumeMotion.oweStop).evalHead

/-- The checks and the effect of RESUME (R156). -/
def State.replyResume (s : State) : Reply :=
  if !s.stop.causes.isEmpty then s.refuse .causesActive
  else if s.stop.latch then s.releaseStop.accept
  else s.accept

/-- RESUME (R156). -/
def execResume (s : State) : Result := s.onRequest .resume .resume State.replyResume

/-! ### The LSTOP filter (R152, R153) -/

/-- A cause follows a condition: present while it holds (R151). -/
def State.followCause (s : State) (c : Cause) (holds : Bool) : State :=
  if holds then s.addCause c else s.dropCause c

/-- One sample of the LSTOP filter (R152); a change of the filtered level moves LOCAL_STOP (R153). -/
def State.sampleLstop (low : Bool) (s : State) : State :=
  if low = s.stop.lstopStop then { s with stop := { s.stop with lstopDiffer := 0 } }
  else if s.stop.lstopFilter ≤ s.stop.lstopDiffer + 1 then
    ({ s with stop := { s.stop with lstopStop := low, lstopDiffer := 0 } } : State).followCause
      .localStop low
  else { s with stop := { s.stop with lstopDiffer := s.stop.lstopDiffer + 1 } }

/-- A run of samples of one level. -/
def State.lstopRun (low : Bool) : Nat → State → State
  | 0, s => s
  | n + 1, s => State.lstopRun low n (s.sampleLstop low)

/-- LSTOP_FILTER_CHANGE (R152, R153). -/
def execLstopFilterChange (low : Bool) (samples : Nat) (s : State) : Result :=
  .next (if s.inRestart then s else s.lstopRun low samples)

/-! ### The supply (R182) -/

/-- SUPPLY_WARN_CHANGE (R182): in a restart the comparison alone is kept, for its end. -/
def execSupplyWarnChange (below : Bool) (s : State) : Result :=
  let t : State := { s with supply := { s.supply with belowWarn := below } }
  .next (if s.inRestart then t else t.followCause .supplyLow below)

end Sys2Proof.Machine
end

