-- ==== Sys2Proof/Machine/Survey.lean ====
section
/-! DEFINITION. The SURVEY request (R130), the rows by which sources take bulk places (R13, R104, R127,
R130), and the survey windows (R132, R133). -/

namespace Sys2Proof.Machine

/-! ### The SURVEY request (R130) -/

/-- The pending SURVEY notice after a request (R130). -/
def mergeSurvey (pending : Option PendingSurvey) (select : WallSelect) : PendingSurvey :=
  match pending with
  | none => { select := select, queued := false }
  | some p => { p with select := if p.select = select then select else .all }

/-- A SURVEY notice made owed, behind the sources that already wait for a bulk place (R104, R130). -/
def State.pendSurvey (s : State) (select : WallSelect) : State :=
  let t := s.serveBulk
  { t with notice := { t.notice with survey := some (mergeSurvey t.notice.survey select) } }

/-- The checks and the effect of the SURVEY request (R130). -/
def State.replySurvey (wall : Octet) (s : State) : Reply :=
  if !s.site.state.joined then s.refuse .badState
  else if 15 < wall.toNat && wall.toNat != 255 then s.refuse .badValue
  else if wall.toNat != 255 && (s.wall wall.toNat).definition.isNone then s.refuse .badSlot
  else (s.pendSurvey (WallSelect.ofCode wall)).accept

/-- SURVEY_REQUEST (R130). -/
def execSurveyRequest (wall : Octet) (s : State) : Result :=
  s.onRequest (.surveyRequest wall) .survey (State.replySurvey wall)

/-! ### Places in the bulk queue (R13, R104) -/

/-- SURVEY_NOTICE_QUEUED (R130). -/
def execSurveyNoticeQueued (s : State) : Result := .next s.serveSurvey

/-- SURVEY_ANSWER_QUEUED (R127). -/
def execSurveyAnswerQueued (s : State) : Result := .next s.serveAnswer

/-- OWN_ANNOUNCE_QUEUED (R13). -/
def execOwnAnnounceQueued (s : State) : Result := .next s.serveAnnounce

/-! ### Survey windows (R132, R133) -/

/-- A wall's survey window has reached its due time (R133). -/
def State.windowReady (s : State) (w : Nat) : Bool :=
  !s.inRestart && reachedSome s.now ((s.wall w).window.map SurveyWindow.due)

/-- A wall's window closes; a clear drop mark clears a set gap flag, which owes a site report and is told
to the admission controller (R133, R22). -/
def State.closeWindow (s : State) (w : Nat) : State :=
  let clean := ((s.wall w).window.map SurveyWindow.dropMark) == some false
  let t := s.mapWall w fun p => { p with window := none, gap := p.gap && !clean }
  if clean && (s.wall w).gap then t.oweSite.mapChanged else t

/-- SURVEY_WINDOW_CLOSE (R133). -/
def execSurveyWindowClose (w : Nat) (s : State) : Result :=
  .next (if s.windowReady w then s.closeWindow w else s)

end Sys2Proof.Machine
end

