-- ==== Sys2Proof/Machine/Transfer.lean ====
section
/-! DEFINITION. The end of a transfer (R161, R163, R164): the item sent is settled, and the request received
is taken and answered. -/

namespace Sys2Proof.Machine

/-! ### The item sent (R161, R163) -/

/-- The octets that the length octet of a request frame announces (R161). -/
def announced (octets : List Octet) : Nat := (octets.headD 0).toNat

/-- A transfer that sent a frame is complete: both frames are whole; with no octet shifted, only after a
null frame (R161). -/
def transferComplete (frame octets : List Octet) : Bool :=
  if octets.isEmpty then frame == nullFrame
  else frame.length ≤ octets.length && announced octets + 1 ≤ octets.length

/-- The item sent is settled (R163). -/
def State.settle (s : State) (item : OutItem) (complete : Bool) : State :=
  if complete then
    match item with
    | .answer => { s with port := { s.port with answer := none } }
    | .placement i true => s.withQueue (s.admission.queue.eraseIdx i)
    | .placement _ false | .null | .stop | .stability | .site => s
  else s.setOwed item true

/-! ### The request received (R164) -/

/-- A request taken and answered without delay (R164); a command that is no request is none. -/
def State.answerRequest (s : State) (r : Instr) : State :=
  match r with
  | .setSite f => s.answerWith r .setSite (State.replySetSite f)
  | .setWall f => s.answerWith r .setWall (State.replySetWall f)
  | .setCure cls datum threshold => s.answerWith r .setCure (State.replySetCure cls datum threshold)
  | .setLimits f => s.answerWith r .setLimits (State.replySetLimits f)
  | .start => s.answerWith r .start State.replyStart
  | .stop => s.answerWith r .stop State.replyStop
  | .place f => s.answerWith r .place (State.replyPlace f)
  | .withdraw tag => s.answerWith r .withdraw (State.replyWithdraw tag)
  | .seated tag => s.answerWith r .seated (State.replySeated tag)
  | .clear tag => s.answerWith r .clear (State.replyClear tag)
  | .resume => s.answerWith r .resume State.replyResume
  | .surveyRequest wall => s.answerWith r .survey (State.replySurvey wall)
  | .readSlot wall course pos => s.answerWith r .readSlot (State.replyReadSlot wall course pos)
  | .readSite => s.answerWith r .readSite State.replyReadSite
  | .transferBegin | .transferEnd _ | .frameArrival _ | .frameDrop _ | .noticeTake | .arbiterTake
  | .attemptStart | .collision | .backoffEnd | .sendCompletion | .claimAnnounceQueued
  | .ownAnnounceQueued | .surveyAnswerQueued | .surveyNoticeQueued | .settleExpiry | .firmDecision
  | .refreshDue _ | .lapsePoint _ | .peerEntryExpiry _ _ | .supportWaitExpiry | .motionLimitExpiry
  | .linkHoldoffEnd | .viewDoubtExpiry | .surveyWindowClose _ | .listenTimerExpiry
  | .leaveTimerExpiry | .leavingEnd | .cureTick | .conversionComplete _ | .srefLost | .srefRegained
  | .windRisingEdge _ | .windWindowEnd | .lstopFilterChange _ _ | .supplyWarnChange _
  | .restartBegin _ | .powerOff | .restartEnd _ | .octetReceived _ _ | .lineIdle
  | .windFallingEdge _ => s

/-- A request taken (R164): one whose effect takes time, a SET-CURE with a conversion walk to make, keeps
the intake busy until its row SET_CURE is done; any other is answered without delay (log 5). -/
def State.takeRequest (s : State) (r : Instr) : State :=
  if s.walksFor r then s.taken r else s.answerRequest r

/-- The request frame received is treated (R164): null, cut short, too long, busy, or taken. A frame that
fits no request is answered BAD_VALUE. -/
def State.takeFrame (s : State) (octets : List Octet) : State :=
  let n := announced octets
  if n = 0 then s
  else if octets.length < n + 1 || 96 < n then s.loseRequest
  else if s.port.intake.isSome || s.port.answer.isSome then s.loseRequest
  else
    let request := octets.tail.take n
    match decodeRequest request with
    | some r => s.takeRequest r
    | none => s.produce (request.headD 0) .badValue .plain

/-- TRANSFER_END (R163, R164): the item sent is settled, then the request received is treated. A
transfer that a restart abandoned settles nothing (R172). -/
def execTransferEnd (octets : List Octet) (s : State) : Result :=
  .next
    (if s.port.selected then
      match s.port.transfer with
      | none => s.withTransfer false none
      | some t =>
        if s.inRestart then s.withTransfer false none
        else
          ((s.withTransfer false none).settle t.item (transferComplete t.frame octets)).takeFrame
            octets
    else s)

end Sys2Proof.Machine
end

