-- ==== Sys2Proof/Machine/Clock.lean ====
section
/-! DEFINITION. What the part does when no command waits: an internal event that is due is taken, in a
fixed order (log 2); when none is due, one millisecond of local time passes (R184, log 1). -/

namespace Sys2Proof.Machine

/-- An event, if it is due. -/
def eventIf (due : Bool) (i : Instr) : Option Instr := if due then some i else none

/-- The refresh that is due first in the claim list (R89). -/
def State.dueRefresh (s : State) : Option Instr :=
  ((s.claims.own.map OwnClaim.number).find? s.refreshReady).map Instr.refreshDue

/-- The lapse point that is reached first in the claim list (R92). -/
def State.dueLapse (s : State) : Option Instr :=
  ((s.claims.own.map OwnClaim.number).find? s.lapseReady).map Instr.lapsePoint

/-- The oldest peer entry whose expiry time is reached (R81). -/
def State.duePeer (s : State) : Option Instr :=
  (s.claims.peers.find? fun e => s.peerReady e.station e.number).map fun e =>
    Instr.peerEntryExpiry e.station e.number

/-- The lowest wall whose survey window has reached its due time (R133). -/
def State.dueWindow (s : State) : Option Instr :=
  (wallNumbers.find? s.windowReady).map Instr.surveyWindowClose

/-- The request being taken (R164). -/
def State.dueRequest (s : State) : Option Instr := if s.inRestart then none else s.port.intake

/-- The internal events in the order an idle step looks for them: the end of LEAVING, the request being
taken, the free queue places in the order of R104, then the rows in the table's order (log 2). -/
def State.dueEvents (s : State) : List (Option Instr) :=
  [eventIf s.leavingReady .leavingEnd,
   s.dueRequest,
   eventIf s.claimToQueue.isSome .claimAnnounceQueued,
   eventIf s.surveyReady .surveyNoticeQueued,
   eventIf s.answerReady .surveyAnswerQueued,
   eventIf s.announceReady .ownAnnounceQueued,
   eventIf s.frameWaiting.isSome .noticeTake,
   eventIf s.arbiterReady .arbiterTake,
   eventIf s.attemptReady .attemptStart,
   eventIf s.wholeFrame.isSome .sendCompletion,
   eventIf s.settledClaim.isSome .settleExpiry,
   eventIf s.dueClaim.isSome .firmDecision,
   s.dueRefresh,
   s.dueLapse,
   s.duePeer,
   eventIf s.expiredSupport.isSome .supportWaitExpiry,
   eventIf s.expiredMotion.isSome .motionLimitExpiry,
   eventIf s.endedHoldoff.isSome .linkHoldoffEnd,
   eventIf s.doubtReady .viewDoubtExpiry,
   s.dueWindow,
   eventIf s.listenReady .listenTimerExpiry,
   eventIf s.leaveReady .leaveTimerExpiry,
   eventIf s.tickReady .cureTick,
   eventIf s.windReady .windWindowEnd]

/-- The internal event that an idle step takes, if one is due. -/
def State.dueEvent (s : State) : Option Instr := s.dueEvents.findSome? id

/-- The part is powered off: it keeps no state and counts no time (R182, log 17). -/
def State.poweredOff (s : State) : Bool := s.supply.hold.any RestartHold.poweredOff

/-- One millisecond passes (R184). -/
def State.tick (s : State) : State := if s.poweredOff then s else { s with now := s.now + 1 }

end Sys2Proof.Machine
end

