-- ==== Sys2Proof/Machine/Dispatch.lean ====
section
/-! DEFINITION. The dispatch of a command to its meaning: one arm per row of spec/opcode_table.json. -/

namespace Sys2Proof.Machine

/-- The effect of a command on everything but the queue of waiting commands. -/
def exec (i : Instr) (s : State) : Host.Outcome State Fault Refusal :=
  match i with
  | .transferBegin => Sys2Proof.Machine.execTransferBegin s
  | .transferEnd octets => Sys2Proof.Machine.execTransferEnd octets s
  | .setSite f => Sys2Proof.Machine.execSetSite f s
  | .setWall f => Sys2Proof.Machine.execSetWall f s
  | .setCure cls datum threshold => Sys2Proof.Machine.execSetCure cls datum threshold s
  | .setLimits f => Sys2Proof.Machine.execSetLimits f s
  | .start => Sys2Proof.Machine.execStart s
  | .stop => Sys2Proof.Machine.execStop s
  | .place f => Sys2Proof.Machine.execPlace f s
  | .withdraw tag => Sys2Proof.Machine.execWithdraw tag s
  | .seated tag => Sys2Proof.Machine.execSeated tag s
  | .clear tag => Sys2Proof.Machine.execClear tag s
  | .resume => Sys2Proof.Machine.execResume s
  | .surveyRequest wall => Sys2Proof.Machine.execSurveyRequest wall s
  | .readSlot wall course pos => Sys2Proof.Machine.execReadSlot wall course pos s
  | .readSite => Sys2Proof.Machine.execReadSite s
  | .frameArrival crcLow => Sys2Proof.Machine.execFrameArrival crcLow s
  | .frameDrop cause => Sys2Proof.Machine.execFrameDrop cause s
  | .noticeTake => Sys2Proof.Machine.execNoticeTake s
  | .arbiterTake => Sys2Proof.Machine.execArbiterTake s
  | .attemptStart => Sys2Proof.Machine.execAttemptStart s
  | .collision => Sys2Proof.Machine.execCollision s
  | .backoffEnd => Sys2Proof.Machine.execBackoffEnd s
  | .sendCompletion => Sys2Proof.Machine.execSendCompletion s
  | .claimAnnounceQueued => Sys2Proof.Machine.execClaimAnnounceQueued s
  | .ownAnnounceQueued => Sys2Proof.Machine.execOwnAnnounceQueued s
  | .surveyAnswerQueued => Sys2Proof.Machine.execSurveyAnswerQueued s
  | .surveyNoticeQueued => Sys2Proof.Machine.execSurveyNoticeQueued s
  | .settleExpiry => Sys2Proof.Machine.execSettleExpiry s
  | .firmDecision => Sys2Proof.Machine.execFirmDecision s
  | .refreshDue claim => Sys2Proof.Machine.execRefreshDue claim s
  | .lapsePoint claim => Sys2Proof.Machine.execLapsePoint claim s
  | .peerEntryExpiry station claim => Sys2Proof.Machine.execPeerEntryExpiry station claim s
  | .supportWaitExpiry => Sys2Proof.Machine.execSupportWaitExpiry s
  | .motionLimitExpiry => Sys2Proof.Machine.execMotionLimitExpiry s
  | .linkHoldoffEnd => Sys2Proof.Machine.execLinkHoldoffEnd s
  | .viewDoubtExpiry => Sys2Proof.Machine.execViewDoubtExpiry s
  | .surveyWindowClose wall => Sys2Proof.Machine.execSurveyWindowClose wall s
  | .listenTimerExpiry => Sys2Proof.Machine.execListenTimerExpiry s
  | .leaveTimerExpiry => Sys2Proof.Machine.execLeaveTimerExpiry s
  | .leavingEnd => Sys2Proof.Machine.execLeavingEnd s
  | .cureTick => Sys2Proof.Machine.execCureTick s
  | .conversionComplete code => Sys2Proof.Machine.execConversionComplete code s
  | .srefLost => Sys2Proof.Machine.execSrefLost s
  | .srefRegained => Sys2Proof.Machine.execSrefRegained s
  | .windRisingEdge samples => Sys2Proof.Machine.execWindRisingEdge samples s
  | .windWindowEnd => Sys2Proof.Machine.execWindWindowEnd s
  | .lstopFilterChange low samples => Sys2Proof.Machine.execLstopFilterChange low samples s
  | .supplyWarnChange below => Sys2Proof.Machine.execSupplyWarnChange below s
  | .restartBegin cause => Sys2Proof.Machine.execRestartBegin cause s
  | .powerOff => Sys2Proof.Machine.execPowerOff s
  | .restartEnd inputs => Sys2Proof.Machine.execRestartEnd inputs s
  | .octetReceived octet stopRecessive => Sys2Proof.Machine.execOctetReceived octet stopRecessive s
  | .lineIdle => Sys2Proof.Machine.execLineIdle s
  | .windFallingEdge samples => Sys2Proof.Machine.execWindFallingEdge samples s

end Sys2Proof.Machine
end

