-- ==== Sys2Proof/Machine/Step.lean ====
section
/-! DEFINITION. One step: the command at the front of the queue, or, while none waits, an internal event
that is due, or one millisecond. -/

namespace Sys2Proof.Machine

/-- The state with the rest of the queue. -/
def State.withPending (s : State) (rest : List Instr) : State := { s with pending := rest }

/-- A step on an empty queue (log 1, log 2). -/
def State.idle (s : State) : Host.Outcome State Fault Refusal :=
  match s.dueEvent with
  | some i => exec i s
  | none => .next s.tick

/-- One step of the part. -/
def step (s : State) : Host.Outcome State Fault Refusal :=
  match s.pending with
  | i :: rest => exec i (s.withPending rest)
  | [] => s.idle

/-- The state with the command that a word spells put at the front of its queue; unchanged where the
word spells none, which holds for every word (log 18). -/
def State.withFetchWord (s : State) (nbits w : Nat) : State :=
  match Sys2Proof.decodeTableWord nbits w with
  | some i => s.withPending (i :: s.pending)
  | none => s

end Sys2Proof.Machine
end

