-- ==== Sys2Proof/Safety.lean ====
section
/-! DEFINITION. What claims about the part are stated in: the blocks of the state and frames over them,
the invariants that every step keeps, and what stands for a safe run. -/

namespace Sys2Proof.Machine

/-! ### Blocks and frames -/

/-- The parts of the state: one per field. -/
inductive Block where
  | now | site | supply | walls | map | cure | admission | claims | tx | rx | notice | monitor | stop
  | port | freeCount | pending
  deriving DecidableEq, Repr

/-- Two states agree on a block. -/
def State.agreesOn (s t : State) : Block → Prop
  | .now => t.now = s.now
  | .site => t.site = s.site
  | .supply => t.supply = s.supply
  | .walls => t.walls = s.walls
  | .map => t.map = s.map
  | .cure => t.cure = s.cure
  | .admission => t.admission = s.admission
  | .claims => t.claims = s.claims
  | .tx => t.tx = s.tx
  | .rx => t.rx = s.rx
  | .notice => t.notice = s.notice
  | .monitor => t.monitor = s.monitor
  | .stop => t.stop = s.stop
  | .port => t.port = s.port
  | .freeCount => t.freeCount = s.freeCount
  | .pending => t.pending = s.pending

/-- A change that leaves every block but those named as it was. -/
def Frame (changed : List Block) (s t : State) : Prop := ∀ b, b ∉ changed → s.agreesOn t b

/-! ### The port ready for a request -/

/-- The command is this request: commanded by itself, or carried by the frame of a transfer that ends
(R164, log 5). -/
def carries (c r : Instr) : Prop :=
  c = r ∨ ∃ octets, c = .transferEnd octets
    ∧ decodeRequest (octets.tail.take (announced octets)) = some r

/-- The port takes this request now: no restart, and the intake holds it, or intake and answer slot are
free (R164). -/
def State.readyFor (s : State) (r : Instr) : Prop := s.inRestart = false ∧ s.port.takes r = true

/-! ### The stop controller (R151, R154, R155) -/

/-- Whenever a cause is present the latch is set; while the latch is released the stop record is empty;
while it is set the causes seen hold each present cause, none twice; the conflict station is present
exactly with CLAIM_CONFLICT (R151, R154, R155). -/
def StopControl.Sound (t : StopControl) : Prop :=
  (t.causes.isEmpty = false → t.latch = true)
    ∧ (t.latch = false → t.first = none ∧ t.seen = [])
    ∧ (∀ c, t.causes.has c = true → c ∈ t.seen)
    ∧ t.seen.Nodup
    ∧ (t.causes.claimConflict = true ↔ t.conflictStation.isSome = true)

/-- STABILITY is present exactly while the stability state is HALTED (R148, R151), and the state is held
at HALTED while the station is off the site (R143). -/
def State.StabilitySound (s : State) : Prop :=
  (s.stop.causes.stability = true ↔ s.monitor.state = .halted)
    ∧ (s.site.state.onSite = false → s.monitor.state = .halted)

/-- Each cause that stands for a condition is present exactly while the condition holds: CLAIM_CONFLICT,
with the lowest conflicting station, while an own FIRM or SEATED claim conflicts with a FIRM or SEATED peer
entry; CLAIM_LAPSE while an own claim has its lapsed mark set; LOCAL_STOP with the filtered LSTOP level; and
outside a restart SUPPLY_LOW with the warn comparison (R91, R92, R151, R153, R182). -/
def State.CausesTrue (s : State) : Prop :=
  (s.stop.causes.claimConflict = true ↔ s.claims.conflictStations ≠ [])
    ∧ s.stop.conflictStation = s.claims.conflictStations.min?
    ∧ (s.stop.causes.claimLapse = true ↔ ∃ c ∈ s.claims.own, c.lapsed = true)
    ∧ s.stop.causes.localStop = s.stop.lstopStop
    ∧ (s.inRestart = false → s.stop.causes.supplyLow = s.supply.belowWarn)

/-! ### The course map (R11, R19) -/

/-- Records stand in key order, one a slot, none below its wall's solid height (R11). -/
def State.MapSound (s : State) : Prop :=
  s.map.records.Pairwise (fun a b => a.slot.before b.slot = true)
    ∧ ∀ r ∈ s.map.records, (s.wall r.slot.wall).solidHeight ≤ r.slot.course

/-- Outside a restart no WET record stands at or above its class's threshold; records and placements lie
on defined walls, and every threshold is at least 1 (R16, R17, R25, R31, R34, R37). -/
def State.NoneRipe (s : State) : Prop :=
  (∀ r ∈ s.map.records, (s.wall r.slot.wall).definition.isSome = true)
    ∧ (∀ p ∈ s.admission.queue, (s.wall p.target.wall).definition.isSome = true)
    ∧ (∀ c ∈ s.cure.classes, 1 ≤ c.threshold)
    ∧ (s.inRestart = false → ∀ r ∈ s.map.records, ∀ stamp, r.state = .wet stamp →
        maturity (s.wallClass r.slot.wall).accum stamp < (s.wallClass r.slot.wall).threshold)

/-! ### Capacities -/

/-- The bounded lists are within their capacities (R39, R43, R103, R141). -/
def State.WithinCapacity (s : State) : Prop :=
  s.admission.queue.length ≤ Config.queueCapacity
    ∧ s.claims.own.length ≤ Config.claimCapacity
    ∧ s.tx.urgent.length ≤ Config.urgentCapacity
    ∧ s.tx.bulk.length ≤ Config.bulkCapacity
    ∧ s.monitor.gusts.length ≤ 12

/-- The course map holds at most 1,024 records, and at most 1,023 while a placement is in ANNOUNCING,
TENTATIVE or FIRM, which will make one more; at most 1,022 of them are peer records (R11, R48). -/
def State.MapBounded (s : State) : Prop :=
  s.map.records.length ≤ Config.mapCapacity
    ∧ ((s.admission.queue.any fun p => p.state.closes) = true →
        s.map.records.length + 1 ≤ Config.mapCapacity)
    ∧ s.map.records.countP (fun r => !r.own) ≤ Config.peerInsertLimit

/-- The receive store never holds more than 2,048 octets (R96). -/
def State.StoreSound (s : State) : Prop := s.rx.fill ≤ Config.storeCapacity

/-- The peer claim table's rules: at most 48 entries, at most two per station, no key twice (R77). -/
def PeersSound (peers : List PeerEntry) : Prop :=
  peers.length ≤ Config.peerCapacity
    ∧ (∀ station, peers.countP (fun e => e.station == station) ≤ 2)
    ∧ peers.Pairwise (fun a b => ¬(a.station = b.station ∧ a.number = b.number))

/-- Lists within their capacities, the map and the store within their sizes, the peer table by its rules,
and the own claims' numbers distinct (R71). -/
def State.Bounded (s : State) : Prop :=
  s.WithinCapacity ∧ s.MapBounded ∧ s.StoreSound ∧ PeersSound s.claims.peers
    ∧ (s.claims.own.map OwnClaim.number).Nodup

/-! ### Admission (R43, R53, R157) -/

/-- At most one placement is in ANNOUNCING, TENTATIVE or FIRM; and outside a restart one is in ANNOUNCING
or TENTATIVE only while the platform is CALM, ARMSTOP is released and view doubt is off (R43, R53,
R157). -/
def State.AdmissionSound (s : State) : Prop :=
  s.admission.queue.countP (fun p => p.state.closes) ≤ 1
    ∧ (s.inRestart = false →
        ∀ p ∈ s.admission.queue, p.state.announced = true →
          s.monitor.state = .calm ∧ s.stopClear = true ∧ s.notice.doubtDue = none)

/-- While a placement is in ANNOUNCING or TENTATIVE the station is ONLINE, its target is OPEN, its wall has
no gap flag and every support slot is ready (R55, R56). -/
def State.AnnouncedReady (s : State) : Prop :=
  ∀ p ∈ s.admission.queue, p.state.announced = true →
    s.site.state = .online ∧ s.readSlot p.target = .vacant ∧ (s.wall p.target.wall).gap = false
      ∧ s.missingSupport p.target = none

/-! ### Claims and the placements they serve (R39, R70, R74, R76, R92) -/

/-- A claim's state is that of the placement it serves: TENTATIVE for one in ANNOUNCING or TENTATIVE, and
only for one in TENTATIVE once its settle has begun; FIRM for FIRM; SEATED for SEATED. -/
def OwnClaim.serves (c : OwnClaim) (p : Placement) : Prop :=
  p.tag = c.tag
    ∧ (match c.state with
      | .tentative =>
        p.state.announced = true ∧ (c.settleDue ≠ none ∨ c.decision ≠ .notDue → p.state = .tentative)
      | .firm => p.state = .firm
      | .seated => p.state = .seated)

/-- Every own claim that is not abandoned serves a placement; live placements have distinct tags (R39), and
so have the claims that are not abandoned; a claim never sent is TENTATIVE with no settle begun; only a
FIRM or SEATED claim that is not abandoned has its lapsed mark set (R92); and a transfer that shows a
placement terminal names a terminal record (R163). -/
def State.ClaimsServe (s : State) : Prop :=
  (∀ c ∈ s.claims.own, c.abandoned = false → ∃ p ∈ s.admission.queue, c.serves p)
    ∧ ((s.admission.queue.filter fun p => !p.state.terminal).map Placement.tag).Nodup
    ∧ ((s.claims.own.filter fun c => !c.abandoned).map OwnClaim.tag).Nodup
    ∧ (∀ c ∈ s.claims.own, c.lastSend = none →
        c.state = .tentative ∧ c.settleDue = none ∧ c.decision = .notDue)
    ∧ (∀ c ∈ s.claims.own, c.lapsed = true → c.state ≠ .tentative ∧ c.abandoned = false)
    ∧ ∀ i frame, s.port.transfer = some { item := .placement i true, frame := frame } →
        ∃ p, s.admission.queue[i]? = some p ∧ p.state.terminal = true

/-- A safe state: every invariant above holds. -/
def State.Safe (s : State) : Prop :=
  s.stop.Sound ∧ s.StabilitySound ∧ s.CausesTrue ∧ s.MapSound ∧ s.NoneRipe ∧ s.Bounded
    ∧ s.AdmissionSound ∧ s.AnnouncedReady ∧ s.ClaimsServe

/-! ### Hearing a frame (R95) -/

/-- The state after these octets, each with a recessive stop bit, have been received one by one. -/
def State.hears : List Octet → State → Option State
  | [], s => some s
  | o :: rest, s =>
    match exec (.octetReceived o true) s with
    | .next t => State.hears rest t
    | .fault _ => none
    | .refused _ => none

end Sys2Proof.Machine
end

