-- ==== Sys2Proof/Certificates/Slice0/Obligations.lean ====
section
/-! DEFINITION. The statements for the provers. First what each command does, family by family, as the
exact next state; then the laws of the model's structures; then the properties of the whole part. -/

open Sys2Proof Sys2Proof.Machine

/-! ### Steps -/

/-- A step takes the command at the front of the queue and runs `exec` on it with the queue's rest (log
18); with no command waiting, the part runs the internal event that is due (log 2), else the time rises
by one millisecond (log 1). The model's choice, but for R184's count. -/
def Obligations.StepTakesTheFrontCommand : Prop :=
  (∀ (c : Instr) (s : State) (rest : List Instr), s.pending = c :: rest →
    step s = exec c { s with pending := rest })
  ∧ (∀ (s : State) (c : Instr), s.pending = [] → s.dueEvent = some c → step s = exec c s)
  ∧ (∀ s : State, s.pending = [] → s.dueEvent = none → s.poweredOff = false →
      step s = .next { s with now := s.now + 1 })

/-! ### The arm port (file 09) -/

/-- TRANSFER_BEGIN outside a restart takes the first item owed in the order of R162, builds its frame and
clears its owed flag; nothing else changes. While the transfer runs SDO shifts out the frame's octets, most
significant bit first, and past its end the fill octet 0; in a restart and while SEL is deasserted it is at
high impedance (R161, R172, R188). -/
def Obligations.TransferBeginTakesTheFirstOwedItem : Prop :=
  (∀ s : State, s.inRestart = false → s.port.selected = false →
    (∀ a, s.port.answer = some a →
      exec .transferBegin s = .next
        { s with
          port :=
            { s.port with
              selected := true, transfer := some { item := .answer, frame := a.frame } } })
    ∧ (s.port.answer = none →
      (s.port.stopOwed = true →
        exec .transferBegin s = .next
          { s with
            port :=
              { s.port with
                selected := true, stopOwed := false
                transfer := some { item := .stop, frame := s.stopReport } } })
      ∧ (s.port.stopOwed = false → s.port.stabilityOwed = true →
        exec .transferBegin s = .next
          { s with
            port :=
              { s.port with
                selected := true, stabilityOwed := false
                transfer := some { item := .stability, frame := s.stabilityReport } } })
      ∧ (s.port.stopOwed = false → s.port.stabilityOwed = false →
        (∀ (before after : List Placement) (p : Placement),
          s.admission.queue = before ++ p :: after → (∀ q ∈ before, q.reportOwed = false) →
          p.reportOwed = true →
            exec .transferBegin s = .next
              { s with
                admission :=
                  { s.admission with queue := before ++ { p with reportOwed := false } :: after }
                port :=
                  { s.port with
                    selected := true
                    transfer :=
                      some
                        { item := .placement before.length p.state.terminal
                          frame := p.report } } })
        ∧ ((∀ q ∈ s.admission.queue, q.reportOwed = false) →
          (s.port.siteOwed = true →
            exec .transferBegin s = .next
              { s with
                port :=
                  { s.port with
                    selected := true, siteOwed := false
                    transfer := some { item := .site, frame := s.siteReport } } })
          ∧ (s.port.siteOwed = false →
            exec .transferBegin s = .next
              { s with
                port :=
                  { s.port with
                    selected := true
                    transfer := some { item := .null, frame := [0] } } })))))
  ∧ (∀ (s : State) (t : Transfer) (n : Nat), s.inRestart = false → s.port.selected = true →
    s.port.transfer = some t →
      (∀ o, t.frame[n]? = some o →
        s.sdoOctet n = some o ∧ ∀ k, k < 8 → s.sdo (8 * n + k) = some (o.getLsbD (7 - k)))
      ∧ (t.frame.length ≤ n → s.sdoOctet n = some 0 ∧ ∀ k, k < 8 → s.sdo (8 * n + k) = some false))
  ∧ (∀ (s : State) (n : Nat), s.inRestart = true ∨ s.port.selected = false →
    s.sdoOctet n = none ∧ s.sdo n = none)

/-- TRANSFER_END settles the item sent by whether the transfer is complete, and then treats the request
received, of which a null request, or none, takes nothing (R163, R164). That as many octets have been
shifted out as in is log 6; with none shifted in, the transfer is complete after a null frame (R161). -/
def Obligations.TransferEndSettlesTheItem : Prop :=
  (∀ (s : State) (item : OutItem) (frame octets : List Octet),
    s.inRestart = false → s.port.selected = true →
    s.port.transfer = some { item := item, frame := frame } →
    let ended : State := { s with port := { s.port with selected := false, transfer := none } }
    let whole : Prop :=
      (octets = [] ∧ frame = [0])
        ∨ (octets ≠ [] ∧ frame.length ≤ octets.length
            ∧ (octets.headD 0).toNat + 1 ≤ octets.length)
    (whole →
      (item = .answer → exec (.transferEnd octets) s = .next
        (({ ended with port := { ended.port with answer := none } } : State).takeFrame octets))
      ∧ (∀ i, item = .placement i true → exec (.transferEnd octets) s = .next
        (({ ended with
            admission := { s.admission with queue := s.admission.queue.eraseIdx i } }
          : State).takeFrame octets))
      ∧ ((item = .null ∨ item = .stop ∨ item = .stability ∨ item = .site
            ∨ ∃ i, item = .placement i false) →
          exec (.transferEnd octets) s = .next (ended.takeFrame octets)))
    ∧ (¬whole →
      ((item = .null ∨ item = .answer) →
        exec (.transferEnd octets) s = .next (ended.takeFrame octets))
      ∧ (item = .stop → exec (.transferEnd octets) s = .next
        (({ ended with port := { ended.port with stopOwed := true } } : State).takeFrame octets))
      ∧ (item = .stability → exec (.transferEnd octets) s = .next
        (({ ended with port := { ended.port with stabilityOwed := true } }
          : State).takeFrame octets))
      ∧ (item = .site → exec (.transferEnd octets) s = .next
        (({ ended with port := { ended.port with siteOwed := true } } : State).takeFrame octets))
      ∧ (∀ i x, item = .placement i x → exec (.transferEnd octets) s = .next
        (({ ended with
            admission :=
              { s.admission with
                queue := s.admission.queue.modify i fun p => { p with reportOwed := true } } }
          : State).takeFrame octets))))
  ∧ (∀ (s : State) (octets : List Octet), octets.headD 0 = 0 → s.takeFrame octets = s)

/-- TRANSFER_END after a null frame takes a whole request frame when intake and answer slot are free: the
request has its effect and its answer at once, but a SET-CURE with a conversion walk to make keeps the
intake busy until its row (R164; log 5). A frame that fits no request is answered BAD_VALUE with no effect;
a busy port, a frame cut short or a length above 96 loses the request and sets the mark. Octets are counted
by those shifted in (log 6). -/
def Obligations.TransferEndTakesTheRequest : Prop :=
  ∀ (s : State) (octets : List Octet),
    s.inRestart = false → s.port.selected = true →
    s.port.transfer = some { item := .null, frame := [0] } →
    let ended : State := { s with port := { s.port with selected := false, transfer := none } }
    let lost : State := { ended with port := { ended.port with requestsLost := true } }
    let length : Nat := (octets.headD 0).toNat
    (∀ (r : Instr) (frame fill : List Octet), r.wellFormed = true → requestFrame r = some frame →
      octets = frame ++ fill →
        (s.port.intake = none → s.port.answer = none →
          (s.walksFor r = false → exec (.transferEnd octets) s = exec r ended)
          ∧ (s.walksFor r = true →
            exec (.transferEnd octets) s = .next
              { ended with port := { ended.port with intake := some r } }))
        ∧ ((s.port.intake.isSome = true ∨ s.port.answer.isSome = true) →
          exec (.transferEnd octets) s = .next lost))
    ∧ (1 ≤ length → length ≤ 96 → length < octets.length →
      (∀ r, encodeRequest r ≠ some (octets.tail.take length)) →
        (s.port.intake = none → s.port.answer = none →
          exec (.transferEnd octets) s = .next
            { ended with
              port :=
                { ended.port with
                  requestsLost := false
                  answer :=
                    some
                      { kind := octets.getD 1 0, code := .badValue, lost := s.port.requestsLost
                        content := .plain } } })
        ∧ ((s.port.intake.isSome = true ∨ s.port.answer.isSome = true) →
          exec (.transferEnd octets) s = .next lost))
    ∧ (0 < length → octets.length ≤ length → exec (.transferEnd octets) s = .next lost)
    ∧ (96 < length → exec (.transferEnd octets) s = .next lost)
    ∧ (∀ r, s.walksFor r = true ↔
      ∃ k datum threshold, r = .setCure k datum threshold ∧ s.site.state.offline = true
        ∧ k.toNat ≤ 3 ∧ -80 ≤ datum.toInt ∧ datum.toInt ≤ 80 ∧ 1 ≤ threshold.toNat
        ∧ threshold.toNat ≤ 16777215 ∧ threshold.toNat < (s.cureClass k.toNat).threshold)

/-- READ-SLOT of a slot in range and READ-SITE are answered OK with their content, and change nothing
else; a slot that does not exist is answered BAD_SLOT, a wall or course out of range BAD_VALUE (R170,
R171). A slot reads RETIRED below the solid height, else by its record, OPEN without one (R10); its view
shows the maturity, a WET one held to 16,777,214, and, for WET and SET, laid by and the marks (R35, R170).
The site view is that of R167. -/
def Obligations.ReadsAnswerAndChangeNothing : Prop :=
  (∀ (s : State) (w c : Octet) (p : Word16), s.readyFor (.readSlot w c p) →
    let slot : Slot := { wall := w.toNat, course := c.toNat, pos := p.toNat }
    let answered (code : AnswerCode) (content : AnswerContent) : State :=
      { s with
        port :=
          { s.port with
            intake := none, requestsLost := false
            answer :=
              some
                { kind := 0x40, code := code, lost := s.port.requestsLost, content := content } } }
    (15 < w.toNat ∨ 63 < c.toNat →
      exec (.readSlot w c p) s = .next (answered .badValue .plain))
    ∧ (w.toNat ≤ 15 → c.toNat ≤ 63 →
      ((s.wall w.toNat).definition = none →
        exec (.readSlot w c p) s = .next (answered .badSlot .plain))
      ∧ (∀ d, (s.wall w.toNat).definition = some d →
        (d.inRange c.toNat p.toNat = false →
          exec (.readSlot w c p) s = .next (answered .badSlot .plain))
        ∧ (d.inRange c.toNat p.toNat = true →
          exec (.readSlot w c p) s = .next (answered .ok (.slot (s.slotView slot)))))))
  ∧ (∀ s : State, s.readyFor .readSite →
    exec .readSite s = .next
      { s with
        port :=
          { s.port with
            intake := none, requestsLost := false
            answer :=
              some
                { kind := 0x41, code := .ok, lost := s.port.requestsLost
                  content := .site s.siteView } } })
  ∧ (∀ (s : State) (slot : Slot),
    let view (state : SlotState) (maturity laidBy : Option Nat) (own owed : Bool) : SlotView :=
      { state := state, maturity := maturity, laidBy := laidBy, own := own, owed := owed
        gap := (s.wall slot.wall).gap, solidHeight := (s.wall slot.wall).solidHeight }
    (slot.course < (s.wall slot.wall).solidHeight →
      s.readSlot slot = .retired
        ∧ s.slotView slot = view .retired (some 16777215) none false false)
    ∧ ((s.wall slot.wall).solidHeight ≤ slot.course →
      (s.recordAt slot = none →
        s.readSlot slot = .vacant ∧ s.slotView slot = view .vacant none none false false)
      ∧ ∀ r, s.recordAt slot = some r → r.slot = slot →
        (r.state = .set →
          s.readSlot slot = .set
            ∧ s.slotView slot
              = view .set (some 16777215) (some r.laidBy) r.own (r.own && r.owed))
        ∧ ∀ (stamp : Accum) (d : WallDef), r.state = .wet stamp →
          (s.wall slot.wall).definition = some d →
            s.readSlot slot = .wet
              ∧ s.slotView slot
                = view .wet (some (min ((s.cureClass d.cls).accum - stamp).toNat 16777214))
                    (some r.laidBy) r.own (r.own && r.owed)))
  ∧ (∀ s : State,
    s.siteView =
      { state := s.site.state, station := s.site.config.map SiteConfig.station
        restartKind := s.site.restartKind, lag := s.rx.lag, doubt := s.notice.doubtDue.isSome
        held := s.cure.held
        gaps := (List.range 16).map fun w => (s.wall w).definition.isSome && (s.wall w).gap
        fault := s.map.fault, lastFail := s.tx.lastFail })

/-! ### Configuration (R3, R24, R25, R142, R175, R176) -/

/-- SET-SITE accepted in UNCONFIGURED writes the configuration, enters CONFIGURED with a site report
owed, and begins the receiver, the scan, the wind filter and window and the cure tick timer; accepted in
CONFIGURED it gives own records the new station number, and a changed bit rate takes effect: the receiver goes
back to GAP_WAIT, the current frame is abandoned without an outcome, and a frame being received is dropped,
its view doubt on the new refresh interval (R176, R93; log 14). -/
def Obligations.SetSiteWritesTheConfiguration : Prop :=
  (∀ (s : State) (f : SiteFields) (c : SiteConfig), s.readyFor (.setSite f) →
    s.site.state = .unconfigured → takenConfig f = some c → c.settle < c.refresh →
      exec (.setSite f) s = .next
        (({ s with
            site := { s.site with config := some c, state := .configured }
            rx := { s.rx with phase := .gapWait, idleCount := 0 }
            monitor :=
              { s.monitor with
                windLevel := none, windDiffer := 0, windCount := 0
                windowDue := some (later s.now 250)
                scan := if s.monitor.reference then some 0 else none }
            cure := { s.cure with tickDue := some (later s.now 1000) }
            port := { s.port with intake := some (.setSite f), siteOwed := true } }
          : State).evalHead.produce 0x01 .ok .plain))
  ∧ (∀ (s : State) (f : SiteFields) (c : SiteConfig), s.readyFor (.setSite f) →
    s.site.state = .configured → takenConfig f = some c → c.settle < c.refresh →
    (c.geometryDiffers s.cfg = false ∨ s.wallsFit c = true) →
      let written : State :=
        { s with
          site := { s.site with config := some c }
          map :=
            { s.map with
              records :=
                s.map.records.map fun r => if r.own then { r with laidBy := c.station } else r }
          port := { s.port with intake := some (.setSite f) } }
      (c.bitRate = s.cfg.bitRate → exec (.setSite f) s = .next (written.produce 0x01 .ok .plain))
      ∧ (c.bitRate ≠ s.cfg.bitRate →
        exec (.setSite f) s = .next (written.changeRate.produce 0x01 .ok .plain)))
  ∧ (∀ s : State,
    let back : State :=
      { s with
        rx := { s.rx with phase := .gapWait, idleCount := 0 }
        tx := { s.tx with current := none } }
    ((s.rx.phase = .inactive ∨ s.rx.phase = .gapWait ∨ s.rx.phase = .hunt) → s.changeRate = back)
    ∧ (((∃ echo, s.rx.phase = .length echo) ∨ (∃ f, s.rx.phase = .body f)
        ∨ ∃ f first, s.rx.phase = .check f first) →
      s.changeRate = back.judgeLag.startDoubt))

/-- SET-WALL that passes the checks of R3 writes the definition into its place, an absent place starting
with solid height 0 and its gap flag clear. SET-CURE accepted writes datum, threshold and mark of its class
and leaves its accumulator; a lowered threshold makes the conversion walk (R25). SET-LIMITS accepted writes
all its values together, each clamped, an off level after its on level, and judges view lag against the new
thresholds (R142, R47, R101, R152). -/
def Obligations.ConfigurationRequestsWriteTheirValues : Prop :=
  (∀ (s : State) (f : WallFields) (d : WallDef), s.readyFor (.setWall f) →
    s.site.state = .configured → takenDefinition f = some d →
    d.gridCheck s.cfg.halfModule s.cfg.courseHeight s.cfg.cellEdge = true →
    ((s.wall f.wall.toNat).definition = none →
      exec (.setWall f) s = .next
        (({ s with
            walls := s.walls.modify f.wall.toNat fun p =>
              if p.definition.isSome then { p with definition := some d }
              else { p with definition := some d, solidHeight := 0, gap := false } }
          : State).produce 0x02 .ok .plain))
    ∧ ((s.wall f.wall.toNat).definition.isSome = true →
      (∀ r ∈ s.map.records, r.slot.wall ≠ f.wall.toNat) → (s.wall f.wall.toNat).solidHeight = 0 →
        exec (.setWall f) s = .next
          (({ s with
              walls := s.walls.modify f.wall.toNat fun p =>
                if p.definition.isSome then { p with definition := some d }
                else { p with definition := some d, solidHeight := 0, gap := false } }
            : State).produce 0x02 .ok .plain)))
  ∧ (∀ (s : State) (k : Octet) (datum : Word16) (threshold : BitVec 32),
    s.readyFor (.setCure k datum threshold) → s.site.state.offline = true → k.toNat ≤ 3 →
    -80 ≤ datum.toInt → datum.toInt ≤ 80 → 1 ≤ threshold.toNat → threshold.toNat ≤ 16777215 →
      let written : State :=
        { s.taken (.setCure k datum threshold) with
          cure :=
            { s.cure with
              classes := s.cure.classes.modify k.toNat fun c =>
                { c with
                  datum := datum.toInt, threshold := threshold.toNat, configured := true } } }
      ((s.cureClass k.toNat).threshold ≤ threshold.toNat →
        exec (.setCure k datum threshold) s = .next (written.produce 0x03 .ok .plain))
      ∧ (threshold.toNat < (s.cureClass k.toNat).threshold →
        exec (.setCure k datum threshold) s = .next
          ((written.conversionWalk k.toNat).produce 0x03 .ok .plain)))
  ∧ (∀ (s : State) (f : LimitFields), s.readyFor (.setLimits f) → s.site.state.offline = true →
    let held (lo hi : Nat) (x : Word16) : Nat := max lo (min hi x.toNat)
    exec (.setLimits f) s = .next
      (({ s.taken (.setLimits f) with
          monitor :=
            { s.monitor with
              limits :=
                { gustHaltOn := held 1 999 f.gustHaltOn
                  gustHaltOff := held 1 (held 1 999 f.gustHaltOn) f.gustHaltOff
                  gustPauseOn := held 1 999 f.gustPauseOn
                  gustPauseOff := held 1 (held 1 999 f.gustPauseOn) f.gustPauseOff
                  inclineOn := held 1 512 f.inclineOn
                  inclineOff := held 1 (held 1 512 f.inclineOn) f.inclineOff
                  strainOn := held 1 1023 f.strainOn
                  strainOff := held 1 (held 1 1023 f.strainOn) f.strainOff
                  dwell := min 60 f.dwell.toNat
                  windFilter := min 7 f.windFilter.toNat
                  factor := held 1 1000 f.factor } }
          stop := { s.stop with lstopFilter := max 1 (min 64 f.lstopFilter.toNat) }
          admission := { s.admission with supportLimit := min 3600 f.supportLimit.toNat }
          rx :=
            { s.rx with
              lagOn := held 256 2048 f.lagOn
              lagOff := min (held 256 2048 f.lagOn - 256) f.lagOff.toNat } }
        : State).judgeLag.produce 0x04 .ok .plain))

/-- A refused request has no effect beyond its answer: SET-SITE, SET-WALL, SET-CURE, SET-LIMITS, START, STOP
and SURVEY in a site state that does not take them are answered BAD_STATE, and each check of theirs that
fails has its code, the first that fails deciding (R3, R24, R130, R168, R175, R177, R180). -/
def Obligations.RefusedRequestsHaveNoEffect : Prop :=
  ∀ s : State,
    let refused (r : Instr) (kind : Octet) (code : AnswerCode) : Prop :=
      s.readyFor r → exec r s = .next (s.produce kind code .plain)
    (∀ f : SiteFields,
      (s.site.state.offline = false → refused (.setSite f) 0x01 .badState)
      ∧ (s.site.state.offline = true →
        ((f.bitRate ≠ 1 ∧ f.bitRate ≠ 2 ∧ f.bitRate ≠ 3
            ∨ f.station.toNat < 1 ∨ 30 < f.station.toNat
            ∨ f.halfModule.toNat < 40 ∨ 200 < f.halfModule.toNat
            ∨ f.courseHeight.toNat < 40 ∨ 300 < f.courseHeight.toNat
            ∨ f.cellEdge.toNat < 250 ∨ 4000 < f.cellEdge.toNat) →
          refused (.setSite f) 0x01 .badValue)
        ∧ (∀ c, takenConfig f = some c →
          (c.refresh ≤ c.settle
            ∨ s.site.state = .configured ∧ c.geometryDiffers s.cfg = true
              ∧ s.wallsFit c = false) →
            refused (.setSite f) 0x01 .badValue)))
    ∧ (∀ f : WallFields,
      (s.site.state ≠ .configured → refused (.setWall f) 0x02 .badState)
      ∧ (s.site.state = .configured →
        ((15 < f.wall.toNat ∨ f.bond ≠ 0 ∧ f.bond ≠ 1 ∨ f.length.toNat % 2 = 1
            ∨ f.length.toNat < 4 ∨ 512 < f.length.toNat ∨ 63 < f.top.toNat ∨ 3 < f.cls.toNat
            ∨ f.x0.toInt < -1000000 ∨ 1000000 < f.x0.toInt
            ∨ f.y0.toInt < -1000000 ∨ 1000000 < f.y0.toInt
            ∨ f.z0.toInt < -1000000 ∨ 1000000 < f.z0.toInt
            ∨ f.direction ≠ 0 ∧ f.direction ≠ 1 ∧ f.direction ≠ 2 ∧ f.direction ≠ 3) →
          refused (.setWall f) 0x02 .badValue)
        ∧ (∀ d, takenDefinition f = some d →
          let fixed : Prop :=
            (s.wall f.wall.toNat).definition.isSome = true
              ∧ ((∃ r ∈ s.map.records, r.slot.wall = f.wall.toNat)
                ∨ (s.wall f.wall.toNat).solidHeight ≠ 0)
          (fixed → refused (.setWall f) 0x02 .badState)
          ∧ (¬fixed → d.gridCheck s.cfg.halfModule s.cfg.courseHeight s.cfg.cellEdge = false →
            refused (.setWall f) 0x02 .badValue))))
    ∧ (∀ (k : Octet) (datum : Word16) (threshold : BitVec 32),
      (s.site.state.offline = false → refused (.setCure k datum threshold) 0x03 .badState)
      ∧ (s.site.state.offline = true →
        (3 < k.toNat ∨ datum.toInt < -80 ∨ 80 < datum.toInt ∨ threshold.toNat < 1
            ∨ 16777215 < threshold.toNat) →
          refused (.setCure k datum threshold) 0x03 .badValue))
    ∧ (∀ f, s.site.state.offline = false → refused (.setLimits f) 0x04 .badState)
    ∧ (s.site.state ≠ .configured → refused .start 0x10 .badState)
    ∧ (s.site.state = .configured →
      ((∀ p ∈ s.walls, p.definition = none)
        ∨ (∃ p ∈ s.walls, ∃ d, p.definition = some d ∧ (s.cureClass d.cls).configured = false)) →
        refused .start 0x10 .badValue)
    ∧ (s.site.state.joined = false → refused .stop 0x11 .badState)
    ∧ (s.site.state.joined = true →
      (∃ p ∈ s.admission.queue, p.state = .firm ∨ p.state = .seated) →
        refused .stop 0x11 .armInCells)
    ∧ (∀ w : Octet,
      (s.site.state.joined = false → refused (.surveyRequest w) 0x31 .badState)
      ∧ (s.site.state.joined = true →
        (15 < w.toNat → w.toNat ≠ 255 → refused (.surveyRequest w) 0x31 .badValue)
        ∧ (w.toNat ≤ 15 → (s.wall w.toNat).definition = none →
          refused (.surveyRequest w) 0x31 .badSlot)))

/-! ### Joining and leaving (R178 to R181) -/

/-- START with the configuration complete empties the peer table, zeroes the claim counter, enters
LISTENING for one hold, restarts the wind window, empties the gust history and owes an all-walls SURVEY
(R178). STOP with no placement FIRM or SEATED abandons the claim of an announced placement, fails every
placement that is not terminal with LEFT, its report owed, enters LEAVING with the leave timer one hold away,
and ends LEAVING at once if nothing urgent is left (R64, R180). -/
def Obligations.StartAndStopMoveTheStation : Prop :=
  (∀ s : State, s.readyFor .start → s.site.state = .configured → s.complete = true →
    exec .start s = .next
      (({ s with
          site :=
            { s.site with
              state := .listening, listenDue := some (later s.now (3 * s.cfg.refresh)) }
          claims := { s.claims with peers := [], counter := 0 }
          notice := { s.notice with survey := some { select := .all, queued := false } }
          monitor :=
            { s.monitor with windCount := 0, windowDue := some (later s.now 250), gusts := [] }
          port := { s.port with intake := some .start, siteOwed := true } }
        : State).reevaluate.produce 0x10 .ok .plain))
  ∧ (∀ s : State, s.readyFor .stop → s.site.state.joined = true →
    (∀ p ∈ s.admission.queue, p.state ≠ .firm ∧ p.state ≠ .seated) →
      ∃ t : State,
        t = (({ (s.taken .stop).abandonAnnounced.failAll with
                site :=
                  { s.site with
                    state := .leaving, listenDue := none
                    leaveDue := some (later s.now (3 * s.cfg.refresh)) } }
              : State).oweSite).reevaluate
        ∧ (t.leavingDone = false → exec .stop s = .next (t.produce 0x11 .ok .plain))
        ∧ (t.leavingDone = true → exec .stop s = .next (t.endLeaving.produce 0x11 .ok .plain)))
  ∧ (∀ s : State,
    ((∀ p ∈ s.admission.queue, p.state ≠ .announcing ∧ p.state ≠ .tentative) →
      s.abandonAnnounced = s)
    ∧ (∀ (before after : List Placement) (p : Placement),
      s.admission.queue = before ++ p :: after →
      (∀ q ∈ before, q.state ≠ .announcing ∧ q.state ≠ .tentative) →
      (∀ q ∈ after, q.state ≠ .announcing ∧ q.state ≠ .tentative) →
      (p.state = .announcing ∨ p.state = .tentative) →
        s.abandonAnnounced = s.abandonTag p.tag)
    ∧ s.failAll =
      { s with
        admission :=
          { s.admission with
            queue := s.admission.queue.map fun p =>
              if p.state = .done ∨ p.state = .withdrawn ∨ p.state = .failed then p
              else
                { p with
                  state := .failed, reason := some (.fail .left), blocking := none
                  missing := none, supportDue := none, motion := .stopped, holdoff := none
                  reportOwed := true } } })

/-- The listen timer makes the station ONLINE; the leave timer empties the urgent queue and closes it; with
nothing urgent left LEAVING ends, in a step of its own, LEAVING_END (R179, R181; log 27). -/
def Obligations.SiteTimersMoveTheSiteState : Prop :=
  (∀ (s : State) (due : LocalTime), s.inRestart = false → s.site.state = .listening →
    s.site.listenDue = some due → reached s.now due = true →
      exec .listenTimerExpiry s = .next
        ({ s with
            site := { s.site with state := .online, listenDue := none }
            port := { s.port with siteOwed := true } } : State).evalHead)
  ∧ (∀ (s : State) (due : LocalTime), s.inRestart = false → s.site.state = .leaving →
    s.site.leaveDue = some due → reached s.now due = true →
      let emptied : State :=
        { s with
          site := { s.site with leaveDue := none, leaveExpired := true }
          tx := { s.tx with urgent := [] } }
      (s.tx.current = none → exec .leaveTimerExpiry s = .next emptied)
      ∧ (∀ f, s.tx.current = some f →
        (f.source.urgent = false → exec .leaveTimerExpiry s = .next emptied)
        ∧ (f.source.urgent = true → f.phase = .sending →
          exec .leaveTimerExpiry s = .next
            { emptied with tx := { emptied.tx with current := some { f with lastAttempt := true } } })
        ∧ (f.source.urgent = true → f.phase ≠ .sending →
          exec .leaveTimerExpiry s = .next
            (({ emptied with tx := { emptied.tx with current := none } } : State).frameDiscarded
              f))))
  ∧ (∀ s : State, s.inRestart = false → s.site.state = .leaving → s.tx.urgent = [] →
    s.tx.urgentCurrent = false →
      exec .leavingEnd s = .next
        (((({ s with
              site :=
                { s.site with state := .configured, leaveDue := none, leaveExpired := false }
              claims := { s.claims with peers := [] }
              walls := s.walls.map fun p =>
                { p with answer := .idle, again := false, window := none }
              notice := { s.notice with waitingWalls := [], survey := none }
              tx :=
                { s.tx with bulk := [], current := s.tx.current.bind CurrentFrame.finishing }
              port := { s.port with siteOwed := true } }
            : State).dropCause .stationClash).setStability .halted).withDwell none).reevaluate)

/-! ### Placements (file 03) -/

/-- PLACE that passes every check of R41 appends a QUEUED record, its motion limit clamped to 1..120 s,
evaluates the head, and is answered OK (R42); the first check that fails, in R41's order, gives its code,
and nothing else changes. -/
def Obligations.PlaceAppendsARecord : Prop :=
  (∀ (s : State) (f : PlaceFields) (d : WallDef), s.readyFor (.place f) →
    s.site.state.joined = true → s.admission.queue.length < 8 →
    (∀ p ∈ s.admission.queue, p.state.terminal = true ∨ p.tag ≠ f.tag ∧ p.target ≠ placeTarget f) →
    (s.wall f.wall.toNat).definition = some d → d.inRange f.course.toNat f.pos.toNat = true →
    goodCells f.tag (placeCells f) = true →
    d.seatCell s.cfg f.course.toNat f.pos.toNat ∈ placeCells f →
    s.readSlot (placeTarget f) = .vacant →
      exec (.place f) s = .next
        ((((s.taken (.place f)).withQueue
            (s.admission.queue
              ++ [{ tag := f.tag, target := placeTarget f, cells := placeCells f
                    limit := clamp 1 120 f.limit.toNat, state := .queued, reason := none
                    yields := 0, blocking := none, missing := none, overrun := false
                    reportOwed := false, supportDue := none, motion := .stopped
                    holdoff := none }])).evalHead).produce 0x20 .ok .plain))
  ∧ (∀ (s : State) (f : PlaceFields), s.readyFor (.place f) →
    let refused (code : AnswerCode) : Prop :=
      exec (.place f) s = .next (s.produce 0x20 code .plain)
    (s.site.state.joined = false → refused .badState)
    ∧ (s.site.state.joined = true →
      (8 ≤ s.admission.queue.length → refused .queueFull)
      ∧ (s.admission.queue.length < 8 →
        ((∃ p ∈ s.admission.queue, p.tag = f.tag ∧ p.state.terminal = false) → refused .dupTag)
        ∧ ((∀ p ∈ s.admission.queue, p.tag = f.tag → p.state.terminal = true) →
          ((s.wall f.wall.toNat).definition = none → refused .badSlot)
          ∧ (∀ d, (s.wall f.wall.toNat).definition = some d →
            (d.inRange f.course.toNat f.pos.toNat = false → refused .badSlot)
            ∧ (d.inRange f.course.toNat f.pos.toNat = true →
              (goodCells f.tag (placeCells f) = false → refused .badValue)
              ∧ (goodCells f.tag (placeCells f) = true →
                (d.seatCell s.cfg f.course.toNat f.pos.toNat ∉ placeCells f → refused .cellsMiss)
                ∧ (d.seatCell s.cfg f.course.toNat f.pos.toNat ∈ placeCells f →
                  (s.readSlot (placeTarget f) ≠ .vacant
                    ∨ ∃ p ∈ s.admission.queue,
                      p.target = placeTarget f ∧ p.state.terminal = false) →
                    refused .slotTaken))))))))
  ∧ (∀ (tag : Octet) (cells : List Nat),
    goodCells tag cells = true ↔
      tag ≠ 0 ∧ 1 ≤ cells.length ∧ cells.length ≤ 16 ∧ cells.Nodup ∧ ∀ c ∈ cells, c ≤ 16383)

/-- WITHDRAW of a waiting placement makes it WITHDRAWN and evaluates the head; of an announced one it also
abandons its claim; later it is TOO_LATE. A tag that no record holds is answered NO_SUCH_TAG by WITHDRAW,
SEATED and CLEAR, with no other effect; a tag names the record that is not terminal, else the oldest (R40,
R60). A placement record that changes has its report owed exactly when a field the report shows, other than
the tag, changes, or it was owed before (R65). -/
def Obligations.WithdrawWithdraws : Prop :=
  (∀ (s : State) (tag : Octet) (i : Nat) (p : Placement), s.readyFor (.withdraw tag) →
    s.resolveTag tag = some i → s.admission.queue[i]? = some p →
    (p.state = .queued ∨ p.state = .waitSupport ∨ p.state = .waitCells →
      exec (.withdraw tag) s = .next
        ((((s.taken (.withdraw tag)).mapPlacement i Placement.withdraw).evalHead).produce 0x21 .ok
          .plain))
    ∧ (p.state = .announcing ∨ p.state = .tentative →
      exec (.withdraw tag) s = .next
        (((((s.taken (.withdraw tag)).abandonTag p.tag).mapPlacement i
          Placement.withdraw).reevaluate).produce 0x21 .ok .plain))
    ∧ (p.state = .firm ∨ p.state = .seated ∨ p.state.terminal = true →
      exec (.withdraw tag) s = .next (s.produce 0x21 .tooLate .plain)))
  ∧ (∀ (s : State) (tag : Octet), (∀ p ∈ s.admission.queue, p.tag ≠ tag) →
    (s.readyFor (.withdraw tag) →
      exec (.withdraw tag) s = .next (s.produce 0x21 .noSuchTag .plain))
    ∧ (s.readyFor (.seated tag) → exec (.seated tag) s = .next (s.produce 0x22 .noSuchTag .plain))
    ∧ (s.readyFor (.clear tag) → exec (.clear tag) s = .next (s.produce 0x23 .noSuchTag .plain)))
  ∧ (∀ (s : State) (tag : Octet),
    let live (p : Placement) : Prop :=
      p.tag = tag ∧ p.state ≠ .done ∧ p.state ≠ .withdrawn ∧ p.state ≠ .failed
    ((∀ p ∈ s.admission.queue, p.tag ≠ tag) → s.resolveTag tag = none)
    ∧ (∀ (before after : List Placement) (p : Placement),
      s.admission.queue = before ++ p :: after →
        (live p → (∀ q ∈ before, ¬live q) → s.resolveTag tag = some before.length)
        ∧ (p.tag = tag → (∀ q ∈ before, q.tag ≠ tag) → (∀ q ∈ s.admission.queue, ¬live q) →
          s.resolveTag tag = some before.length)))
  ∧ (∀ (s : State) (before after : List Placement) (p : Placement) (f : Placement → Placement),
    s.admission.queue = before ++ p :: after →
      let q := f p
      let changed : Prop :=
        p.state ≠ q.state ∨ p.reason ≠ q.reason ∨ p.yields ≠ q.yields ∨ p.blocking ≠ q.blocking
          ∨ p.missing ≠ q.missing ∨ p.overrun ≠ q.overrun
      let put (owed : Bool) : State :=
        { s with
          admission :=
            { s.admission with queue := before ++ { q with reportOwed := owed } :: after } }
      (changed → s.mapPlacement before.length f = put true)
      ∧ (¬changed → s.mapPlacement before.length f = put q.reportOwed))
  ∧ (∀ p : Placement,
    p.withdraw =
      { p with
        state := .withdrawn, reason := none, blocking := none, missing := none
        supportDue := none, motion := .stopped, holdoff := none }
    ∧ ∀ r, p.fail r =
      { p with
        state := .failed, reason := some (.fail r), blocking := none, missing := none
        supportDue := none, motion := .stopped, holdoff := none })

/-- SEATED of a FIRM placement makes the own insert, turns its claim SEATED with an announce requested,
stops its motion timer and makes it SEATED (R62, R90). The own insert, by the target slot: OPEN gets an own
WET record with its announce owed; a peer record becomes an own one, SET or freshly WET, and an own record
or a RETIRED slot changes no record, each of these with a DOUBLE_LAY fault and a site report owed (R12). -/
def Obligations.SeatedMakesTheOwnRecord : Prop :=
  (∀ (s : State) (tag : Octet) (i : Nat) (p : Placement), s.readyFor (.seated tag) →
    s.resolveTag tag = some i → s.admission.queue[i]? = some p →
    (∀ c, p.state = .firm → (s.claimOf p.tag) = some c →
      exec (.seated tag) s = .next
        ((((((s.taken (.seated tag)).ownInsert p.target).mapClaim c.number fun c =>
          { c with state := .seated }).requestAnnounce c.number).mapPlacement i fun p =>
            { p with state := .seated, reason := none, motion := .stopped }).reevaluate.produce 0x22
              .ok .plain))
    ∧ (p.state ≠ .firm → exec (.seated tag) s = .next (s.produce 0x22 .notFirm .plain)))
  ∧ (∀ (s : State) (slot : Slot),
    let wet : Adhesive := .wet (s.wallClass slot.wall).accum
    let own (a : Adhesive) : List SlotRecord :=
      insertRecord { slot := slot, state := a, laidBy := s.cfg.station, own := true, owed := true }
        s.map.records
    let faulted (records : List SlotRecord) (peer : Option Nat) : State :=
      { s with
        map := { records := records, fault := some { slot := slot, peer := peer } }
        port := { s.port with siteOwed := true } }
    (s.readSlot slot = .vacant →
      s.ownInsert slot = { s with map := { s.map with records := own wet } })
    ∧ (s.readSlot slot = .retired → s.ownInsert slot = faulted s.map.records none)
    ∧ (∀ r, s.readSlot slot ≠ .retired → s.recordAt slot = some r →
      (r.own = true → s.ownInsert slot = faulted s.map.records none)
      ∧ (r.own = false → r.state = .set →
        s.ownInsert slot = faulted (own .set) (some r.laidBy))
      ∧ (r.own = false → r.state ≠ .set →
        s.ownInsert slot = faulted (own wet) (some r.laidBy))))

/-- CLEAR of a placement in any state but SEATED and FIRM is answered NOT_FIRM and changes nothing else.
CLEAR of a SEATED placement makes it DONE, of a FIRM one FAILED with ABANDONED; its waiting CLAIM
records go first (log 13), a CLAIM frame of it that waits is discarded and one being sent is marked to take
no outcome, its claim leaves the list with its RELEASE queued, and CLAIM_LAPSE and the conflicts are judged
again (R63, R76, R92, R110). -/
def Obligations.ClearReleases : Prop :=
  ∀ (s : State) (tag : Octet) (i : Nat) (p : Placement), s.readyFor (.clear tag) →
    s.resolveTag tag = some i → s.admission.queue[i]? = some p →
    (p.state ≠ .seated → p.state ≠ .firm →
      exec (.clear tag) s = .next (s.produce 0x23 .notFirm .plain))
    ∧ ∀ c, s.claimOf p.tag = some c →
      let current : Option CurrentFrame :=
        match s.tx.current with
        | none => none
        | some f =>
          if f.source ≠ .claim c.number false then some f
          else if f.phase = .sending then some { f with source := .claim c.number true }
          else none
      let released : State :=
        (({ s.taken (.clear tag) with
            tx :=
              { s.tx with
                urgent := s.tx.urgent.filter fun r => r != .claim c.number, current := current } }
          : State).deleteClaim c.number).queueRelease c.number
      (p.state = .seated →
        exec (.clear tag) s = .next
          ((((released.mapPlacement i fun p =>
            { p with state := .done, reason := none, motion := .stopped }).judgeLapse).reevaluate).produce
              0x23 .ok .plain))
      ∧ (p.state = .firm →
        exec (.clear tag) s = .next
          ((((released.mapPlacement i fun p =>
            p.fail .abandoned).judgeLapse).reevaluate).produce 0x23 .ok .plain))

/-- What an evaluation of the head does while admission is open (R43): a head whose target is taken, or whose
wall has its gap flag set, fails and the next is evaluated (R45); one with a support slot that is not ready
waits on the first such slot, its support-wait timer starting on entry (R46, R47); one that a gate holds waits
with the reason of the first gate that fails, in R48's order, and at gate 7 with the lowest blocking station
(R49); one past them announces (R51): the OWED announces take free urgent places (log 12), its claim is made,
numbered past a number still held, its record joins the urgent queue, and the contested claims request
announces, the older first (R71, R72, R88; log 31). The link holdoff goes when it leaves WAIT_CELLS (R50). Gate 9 is as log 12 reads
it. With admission closed, or no head, nothing changes. -/
def Obligations.HeadEvaluationActs : Prop :=
  let waits (p : Placement) : Prop :=
    p.state = .queued ∨ p.state = .waitSupport ∨ p.state = .waitCells
  let closes (p : Placement) : Prop :=
    p.state = .announcing ∨ p.state = .tentative ∨ p.state = .firm
  (∀ s : State,
    ((∃ p ∈ s.admission.queue, closes p) ∨ 2 ≤ s.claims.own.length
        ∨ ∀ p ∈ s.admission.queue, ¬waits p) →
      s.evalHead = s)
  ∧ ∀ (s : State) (before after : List Placement) (p : Placement),
    (∀ q ∈ s.admission.queue, ¬closes q) → s.claims.own.length < 2 →
    s.admission.queue = before ++ p :: after → (∀ q ∈ before, ¬waits q) → waits p →
      let failed (r : FailReason) : State :=
        s.mapPlacement before.length fun q =>
          { q with
            state := .failed, reason := some (.fail r), blocking := none, missing := none
            supportDue := none, motion := .stopped, holdoff := none }
      (s.readSlot p.target ≠ .vacant → s.evalHead = (failed .slotTaken).evalHead)
      ∧ (s.readSlot p.target = .vacant → (s.wall p.target.wall).gap = true →
        s.evalHead = (failed .viewGap).evalHead)
      ∧ (s.readSlot p.target = .vacant → (s.wall p.target.wall).gap = false →
        (∀ slot, s.missingSupport p.target = some slot →
          s.evalHead =
            s.mapPlacement before.length fun q =>
              { q with
                state := .waitSupport, reason := none, blocking := none, missing := some slot
                holdoff := none
                supportDue :=
                  if p.state = .waitSupport then p.supportDue
                  else if s.admission.supportLimit = 0 then none
                  else some (later s.now (s.admission.supportLimit * 1000)) })
        ∧ (s.missingSupport p.target = none →
          let precedence : Nat := p.target.course * 32 + s.cfg.station
          let blocks (e : PeerEntry) : Prop :=
            e ∈ s.claims.peers ∧ (∃ x ∈ p.cells, x ∈ e.cells)
              ∧ (e.state ≠ .tentative ∨ e.precedence < precedence)
          let gate : WaitReason → Prop
            | .notOnline => s.site.state = .online
            | .notCalm => s.monitor.state = .calm
            | .stopped => s.stop.causes = .empty ∧ s.stop.latch = false
            | .viewLag => s.rx.lag = false
            | .viewDoubt => s.notice.doubtDue = none
            | .mapFull => s.map.records.length < 1024
            | .cellsHeld => ∀ e, ¬blocks e
            | .linkFail => p.holdoff = none
            | .linkBusy =>
              s.site.leaveExpired = false
                ∧ s.tx.urgent.length + s.claims.own.countP (fun c => c.announce == .owed) < 8
          let gates : List WaitReason :=
            [.notOnline, .notCalm, .stopped, .viewLag, .viewDoubt, .mapFull, .cellsHeld, .linkFail,
              .linkBusy]
          let waiting (r : WaitReason) (blocking : Option Nat) : State :=
            s.mapPlacement before.length fun q =>
              { q with
                state := .waitCells, reason := some (.wait r), blocking := blocking
                missing := none, supportDue := none }
          (∀ (passed rest : List WaitReason) (r : WaitReason), gates = passed ++ r :: rest →
            (∀ x ∈ passed, gate x) → ¬gate r →
              (r ≠ .cellsHeld → s.evalHead = waiting r none)
              ∧ (r = .cellsHeld → ∀ e, blocks e → (∀ x, blocks x → e.station ≤ x.station) →
                s.evalHead = waiting .cellsHeld (some e.station)))
          ∧ ((∀ r, gate r) →
            let number : Octet :=
              if s.claims.own.any fun c => c.number == s.claims.counter then s.claims.counter + 1
              else s.claims.counter
            let served := s.serveOwed
            let claim : OwnClaim :=
              { number := number, tag := p.tag, state := .tentative, cells := p.cells
                precedence := precedence, lastSend := none, refreshTaken := false
                settleDue := none, decision := .notDue, announce := .queued
                abandoned := false, lapsed := false }
            let made : State :=
              { served with
                claims :=
                  { served.claims with own := served.claims.own ++ [claim], counter := number + 1 }
                tx := { served.tx with urgent := served.tx.urgent ++ [.claim number] } }
            s.evalHead =
              (made.mapPlacement before.length fun q =>
                { q with
                  state := .announcing, reason := none, blocking := none, missing := none
                  supportDue := none, holdoff := none }).refreshContested)))

/-! ### Claims (file 04) -/

/-- SETTLE_EXPIRY of the first claim that settles defers the decision to the newest complete frame if
the store holds one, and else takes it; FIRM_DECISION takes a decision that a finished frame has marked due
(R85, R86; log 16). The decision yields if a peer entry blocks the claim or a gate fails, and else makes
claim and placement FIRM, requests the announce and starts the motion timer; a claim already past its lapse
point then lapses at once (R87, R56, R58, R92). -/
def Obligations.SettledClaimsAreDecided : Prop :=
  (∀ (s : State) (before after : List OwnClaim) (c : OwnClaim) (due : LocalTime),
    s.inRestart = false → s.claims.own = before ++ c :: after →
    (∀ x ∈ before, x.state ≠ .tentative) →
    c.state = .tentative → c.abandoned = false → c.settleDue = some due →
    (c.decision = .notDue → reached s.now due = true →
      (s.rx.frames = [] → exec .settleExpiry s = .next (s.decide c))
      ∧ (∀ (older : List StoredFrame) (newest : StoredFrame), s.rx.frames = older ++ [newest] →
        exec .settleExpiry s = .next
          (s.mapClaim c.number fun x =>
            { x with
              decision :=
                .waitingFor ((s.rx.readPos + (older.map StoredFrame.size).sum) % 2048) })))
    ∧ (c.decision = .due → exec .firmDecision s = .next (s.decide c)))
  ∧ (∀ (s : State) (c : OwnClaim),
    ((s.blockingStation c.cells c.precedence = none ∧ s.monitor.state = .calm ∧ s.stopClear = true
        ∧ s.notice.doubtDue = none) →
      let firm : State :=
        (((s.mapClaim c.number fun x =>
          { x with state := .firm, settleDue := none, decision := .notDue }).requestAnnounce
            c.number).mapTag c.tag .tentative fun p =>
              { p with
                state := .firm, reason := none
                motion := .running (later s.now (p.limit * 1000)) }).reevaluate
      (firm.lapseReady c.number = false → s.decide c = firm)
      ∧ (firm.lapseReady c.number = true →
        s.decide c = (firm.mapClaim c.number fun x => { x with lapsed := true }).judgeLapse))
    ∧ ((s.blockingStation c.cells c.precedence ≠ none ∨ s.monitor.state ≠ .calm
        ∨ s.stopClear = false ∨ s.notice.doubtDue ≠ none) →
      s.decide c = s.yieldAnnounced.reevaluate))
  ∧ (∀ (s : State) (n : Octet),
    s.lapseReady n = true ↔
      s.inRestart = false ∧ ∃ c sent, s.ownClaim n = some c ∧ (c.state = .firm ∨ c.state = .seated)
        ∧ c.abandoned = false ∧ c.lapsed = false ∧ c.lastSend = some sent
        ∧ reached s.now (later sent (2 * s.cfg.refresh)) = true)

/-- A placement that is announced yields: it abandons its claim, returns to WAIT_CELLS with its yield count
one higher, its reason a free value until the head is evaluated (R53; log 9). An abandoned claim goes by the
place of its CLAIM frame: one being sent is let finish, one that waits is discarded, and a claim that goes
queues a RELEASE if a CLAIM of it was sent (R52). OWED announces take free urgent places first, older claims
before younger (R73, R104; log 12). -/
def Obligations.YieldsAbandonTheClaim : Prop :=
  (∀ s : State,
    ((∀ p ∈ s.admission.queue, p.state ≠ .announcing ∧ p.state ≠ .tentative) →
      s.yieldAnnounced = s)
    ∧ (∀ (before after : List Placement) (p : Placement),
      s.admission.queue = before ++ p :: after →
      (∀ q ∈ before, q.state ≠ .announcing ∧ q.state ≠ .tentative) →
      (p.state = .announcing ∨ p.state = .tentative) →
        s.yieldAnnounced =
          { (s.abandonTag p.tag).mapPlacement before.length fun q =>
              { q with
                state := .waitCells, blocking := none, missing := none, supportDue := none
                reason := some (.wait (WaitReason.ofIndex (Config.yieldReason s.freeCount)))
                yields := min 255 (q.yields + 1) } with
            freeCount := s.freeCount + 1 }))
  ∧ (∀ (s : State) (tag : Octet),
    (s.claimOf tag = none → s.abandonTag tag = s)
    ∧ ∀ c, s.claimOf tag = some c →
      let unqueued (current : Option CurrentFrame) : State :=
        { s with
          tx :=
            { s.tx with
              urgent := s.tx.urgent.filter fun r => r != .claim c.number, current := current } }
      let dismissed (t : State) : State :=
        let gone : State :=
          { t with
            claims :=
              { t.claims with own := t.claims.own.filter fun x => x.number != c.number } }
        if c.lastSend = none then gone
        else
          let served := gone.serveOwed
          if served.site.leaveExpired = false ∧ served.tx.urgent.length < 8 then
            { served with
              tx := { served.tx with urgent := served.tx.urgent ++ [.release c.number] } }
          else served
      ((∀ f, s.tx.current = some f → f.source ≠ .claim c.number false) →
        s.abandonTag tag = dismissed (unqueued s.tx.current))
      ∧ (∀ f, s.tx.current = some f → f.source = .claim c.number false →
        (f.phase ≠ .sending → s.abandonTag tag = dismissed (unqueued none))
        ∧ (f.phase = .sending →
          s.abandonTag tag =
            (unqueued s.tx.current).mapClaim c.number fun x =>
              { x with
                abandoned := true, announce := .nothing, decision := .notDue
                settleDue := none })))
  ∧ (∀ s : State, (s.claims.own.map OwnClaim.number).Nodup →
    (s.site.leaveExpired = true → s.serveOwed = s)
    ∧ (s.site.leaveExpired = false →
      let served : List Octet :=
        ((s.claims.own.filter fun c => c.announce == .owed).take (8 - s.tx.urgent.length)).map
          OwnClaim.number
      s.serveOwed =
        { s with
          claims :=
            { s.claims with
              own := s.claims.own.map fun c =>
                if c.number ∈ served then { c with announce := .queued } else c }
          tx := { s.tx with urgent := s.tx.urgent ++ served.map .claim } }))
  ∧ (∀ (s : State) (n : Octet),
    (s.ownClaim n = none → s.requestAnnounce n = s)
    ∧ ∀ c, s.ownClaim n = some c →
      (c.announce ≠ .nothing → s.requestAnnounce n = s)
      ∧ (c.announce = .nothing →
        let served := s.serveOwed
        (served.site.leaveExpired = false → served.tx.urgent.length < 8 →
          s.requestAnnounce n =
            (served.mapClaim n fun x => { x with announce := .queued }).withUrgent
              (served.tx.urgent ++ [.claim n]))
        ∧ (served.site.leaveExpired = true ∨ 8 ≤ served.tx.urgent.length →
          s.requestAnnounce n = served.mapClaim n fun x => { x with announce := .owed })))

/-- A re-evaluation of conflicts (R83): an announced placement whose claim a peer entry blocks yields
(R84); CLAIM_CONFLICT comes with the first conflicting pair, names the lowest conflicting station, and goes
with the last (R91); own FIRM and SEATED claims that meet a TENTATIVE entry request an announce (R88), the
older claim first (log 31); the head is evaluated. A change of the map that takes an announced placement's target, or sets its wall's gap
flag, fails it (R55). -/
def Obligations.ConflictsAreReevaluated : Prop :=
  (∀ s : State, s.reevaluate = s.blockingTest.conflictTest.refreshContested.evalHead)
  ∧ (∀ (s : State) (before after : List Placement) (p : Placement) (c : OwnClaim),
    s.admission.queue = before ++ p :: after →
    (∀ q ∈ before, q.state ≠ .announcing ∧ q.state ≠ .tentative) →
    (p.state = .announcing ∨ p.state = .tentative) → s.claimOf p.tag = some c →
      let blocked : Prop :=
        ∃ e ∈ s.claims.peers, (∃ x ∈ c.cells, x ∈ e.cells)
          ∧ (e.state ≠ .tentative ∨ e.precedence < c.precedence)
      (blocked → s.blockingTest = s.yieldAnnounced) ∧ (¬blocked → s.blockingTest = s))
  ∧ (∀ s : State,
    ((∀ p ∈ s.admission.queue, p.state ≠ .announcing ∧ p.state ≠ .tentative) →
      s.blockingTest = s)
    ∧ (let conflicts (e : PeerEntry) : Prop :=
        e ∈ s.claims.peers ∧ e.state ≠ .tentative
          ∧ ∃ c ∈ s.claims.own, c.state ≠ .tentative ∧ c.abandoned = false
            ∧ ∃ x ∈ c.cells, x ∈ e.cells
      ((∀ e, ¬conflicts e) → s.conflictTest = s.causeLeaves .claimConflict)
      ∧ ∀ e, conflicts e → (∀ x, conflicts x → e.station ≤ x.station) →
        (s.stop.causes.claimConflict = true →
          (s.stop.conflictStation = some e.station → s.conflictTest = s)
          ∧ (s.stop.conflictStation ≠ some e.station →
            s.conflictTest =
              { s with
                stop := { s.stop with conflictStation := some e.station }
                port := { s.port with stopOwed := true } }))
        ∧ (s.stop.causes.claimConflict = false →
          let joined := s.causeJoins .claimConflict
          s.conflictTest =
            ({ joined with stop := { joined.stop with conflictStation := some e.station } }
              : State).yieldAnnounced)))
  ∧ (∀ (s : State),
    s.refreshContested =
      ((s.claims.own.filter fun c =>
          c.state != .tentative && !c.abandoned
            && s.claims.peers.any fun e =>
              e.state == .tentative && c.cells.any e.cells.contains).map
        OwnClaim.number).foldl State.requestAnnounce s)
  ∧ (∀ (s : State) (before after : List Placement) (p : Placement),
    s.admission.queue = before ++ p :: after →
    (∀ q ∈ before, q.state ≠ .announcing ∧ q.state ≠ .tentative) →
    (p.state = .announcing ∨ p.state = .tentative) →
      let failed (r : FailReason) : State :=
        ((s.abandonTag p.tag).mapPlacement before.length fun q => q.fail r).reevaluate
      (s.readSlot p.target ≠ .vacant → s.mapChanged = failed .slotTaken)
      ∧ (s.readSlot p.target = .vacant →
        ((s.wall p.target.wall).gap = true → s.mapChanged = failed .viewGap)
        ∧ ((s.wall p.target.wall).gap = false → s.mapChanged = s)))
  ∧ (∀ s : State,
    (∀ p ∈ s.admission.queue, p.state ≠ .announcing ∧ p.state ≠ .tentative) →
      s.mapChanged = s.evalHead)

/-- The timers. Of placements: a head that has waited out its support limit fails with SUPPORT_TIMEOUT and
keeps its missing slot; a motion limit reached sets the overrun mark; a link holdoff reached is cleared and
the head evaluated (R47, R58, R50). Of the view: view doubt ends at its due time with a site report owed and
the head evaluated; a survey window that closes with a clear drop mark clears a set gap flag, and else leaves
it (R123, R124, R133). Of claims: a refresh that falls due requests an announce, once for each send (log 21);
a claim in FIRM or SEATED at its lapse point has its lapsed mark set, and CLAIM_LAPSE stands exactly while a
claim has it; a peer entry at its expiry is removed; an OWED announce takes a free urgent place (R89, R92,
R81, R73). -/
def Obligations.TimersActAtTheirDueTimes : Prop :=
  (∀ (s : State) (i : Nat) (p : Placement) (due : LocalTime), s.inRestart = false →
    s.headIndex = some i → s.admission.queue[i]? = some p → p.state = .waitSupport →
    p.supportDue = some due → reached s.now due = true →
      exec .supportWaitExpiry s = .next
        (s.mapPlacement i fun p =>
          { p.fail .supportTimeout with missing := p.missing }).evalHead)
  ∧ (∀ (s : State) (before after : List Placement) (p : Placement) (due : LocalTime),
    s.inRestart = false → s.admission.queue = before ++ p :: after →
    (∀ q ∈ before, q.state ≠ .firm) → p.state = .firm → p.motion = .running due →
    reached s.now due = true →
      exec .motionLimitExpiry s = .next
        (s.mapPlacement before.length fun p => { p with overrun := true, motion := .stopped }))
  ∧ (∀ (s : State) (before after : List Placement) (p : Placement) (due : LocalTime),
    s.inRestart = false → s.admission.queue = before ++ p :: after →
    (∀ q ∈ before, q.holdoff = none) → p.holdoff = some due → reached s.now due = true →
      exec .linkHoldoffEnd s = .next
        (s.mapPlacement before.length fun p => { p with holdoff := none }).evalHead)
  ∧ (∀ (s : State) (due : LocalTime), s.inRestart = false → s.notice.doubtDue = some due →
    reached s.now due = true →
      exec .viewDoubtExpiry s = .next
        ({ s with
            notice := { s.notice with doubtDue := none }
            port := { s.port with siteOwed := true } } : State).evalHead)
  ∧ (∀ (s : State) (w : Nat) (x : SurveyWindow), s.inRestart = false → w < s.walls.length →
    (s.wall w).window = some x → reached s.now x.due = true →
      (x.dropMark = true ∨ (s.wall w).gap = false →
        exec (.surveyWindowClose w) s = .next
          { s with walls := s.walls.modify w fun p => { p with window := none } })
      ∧ (x.dropMark = false → (s.wall w).gap = true →
        exec (.surveyWindowClose w) s = .next
          ({ s with
              walls := s.walls.modify w fun p => { p with window := none, gap := false }
              port := { s.port with siteOwed := true } } : State).mapChanged))
  ∧ (∀ (s : State) (c : OwnClaim) (sent : LocalTime), s.inRestart = false →
    s.ownClaim c.number = some c → c.abandoned = false → c.lastSend = some sent →
    (c.refreshTaken = false → reached s.now (later sent s.cfg.refresh) = true →
      exec (.refreshDue c.number) s = .next
        ((s.mapClaim c.number fun x => { x with refreshTaken := true }).requestAnnounce c.number))
    ∧ (c.lapsed = false → c.state = .firm ∨ c.state = .seated →
      reached s.now (later sent (2 * s.cfg.refresh)) = true →
        exec (.lapsePoint c.number) s = .next
          (s.mapClaim c.number fun x => { x with lapsed := true }).judgeLapse))
  ∧ (∀ (s : State) (e : PeerEntry), s.inRestart = false →
    s.peerEntry e.station e.number = some e → reached s.now e.expiry = true →
      exec (.peerEntryExpiry e.station e.number) s = .next
        (s.withPeers
          (s.claims.peers.filter fun x =>
            !(x.station == e.station && x.number == e.number))).reevaluate)
  ∧ (∀ (s : State) (before after : List OwnClaim) (c : OwnClaim), s.inRestart = false →
    s.site.leaveExpired = false → s.tx.urgent.length < 8 → s.claims.own = before ++ c :: after →
    (∀ x ∈ before, x.announce ≠ .owed) → c.announce = .owed →
      exec .claimAnnounceQueued s = .next
        ((s.mapClaim c.number fun x => { x with announce := .queued }).withUrgent
          (s.tx.urgent ++ [.claim c.number])))
  ∧ (∀ s : State,
    ((∃ c ∈ s.claims.own, c.lapsed = true) → s.judgeLapse = s.addCause .claimLapse)
    ∧ ((∀ c ∈ s.claims.own, c.lapsed = false) → s.judgeLapse = s.dropCause .claimLapse))

/-! ### The stop controller's requests and inputs (files 07, 08) -/

/-- RESUME with a cause present is answered CAUSES_ACTIVE; with the set empty it empties the stop record,
releases the latch, lets the held motion limit timers run on, one of a FIRM placement held at 0 ms expiring
at once with its report owed, owes a stop report and has the head evaluated; with the latch already released
it has no effect (R58, R59, R156, R158). -/
def Obligations.ResumeReleasesTheLatch : Prop :=
  ∀ s : State, s.readyFor .resume →
    (s.stop.causes.isEmpty = false →
      exec .resume s = .next (s.produce 0x30 .causesActive .plain))
    ∧ (s.stop.causes.isEmpty = true → s.stop.latch = false →
      exec .resume s = .next (s.produce 0x30 .ok .plain))
    ∧ (s.stop.causes.isEmpty = true → s.stop.latch = true →
      exec .resume s = .next
        (({ s with
            stop := { s.stop with latch := false, first := none, seen := [] }
            admission :=
              { s.admission with
                queue := s.admission.queue.map fun p =>
                  if p.state = .firm ∧ p.motion = .held 0 then
                    { p with
                      overrun := true, motion := .stopped
                      reportOwed := p.reportOwed || !p.overrun }
                  else
                    { p with
                      motion :=
                        match p.motion with
                        | .held ms => .running (later s.now ms)
                        | .running due => .running due
                        | .stopped => .stopped } }
            port := { s.port with intake := some .resume, stopOwed := true } }
          : State).evalHead.produce 0x30 .ok .plain))

/-- The inputs. The LSTOP filter, of which a command carries a run of samples (log 7): samples that agree
with the filtered level empty its count, samples that differ raise it, the one that brings it to the filter
time, or finds it there, changes the level and moves LOCAL_STOP (R152, R153). SUPPLY_WARN_CHANGE moves
SUPPLY_LOW; in a restart it keeps the comparison alone (R182; log 25). Losing the sensor reference stops the
scan, makes rings, temperature and measures invalid, and on the site makes the platform HALTED with no dwell
running (log 33); regaining it begins the scan at channel 0, if SET-SITE has been accepted (R137, R144). Both
are followed in UNCONFIGURED too (log 32). -/
def Obligations.InputsMoveTheirCauses : Prop :=
  (∀ (s : State) (low : Bool) (n : Nat), s.inRestart = false →
    (low = s.stop.lstopStop → 1 ≤ n →
      exec (.lstopFilterChange low n) s = .next
        { s with stop := { s.stop with lstopDiffer := 0 } })
    ∧ (low ≠ s.stop.lstopStop → s.stop.lstopDiffer + n < s.stop.lstopFilter →
      exec (.lstopFilterChange low n) s = .next
        { s with stop := { s.stop with lstopDiffer := s.stop.lstopDiffer + n } })
    ∧ (low ≠ s.stop.lstopStop → 1 ≤ n →
      (s.stop.lstopDiffer + n = s.stop.lstopFilter
        ∨ n = 1 ∧ s.stop.lstopFilter ≤ s.stop.lstopDiffer) →
      let changed : State :=
        { s with stop := { s.stop with lstopStop := low, lstopDiffer := 0 } }
      exec (.lstopFilterChange low n) s = .next
        (if low then changed.addCause .localStop else changed.dropCause .localStop)))
  ∧ (∀ (s : State) (low : Bool) (m n : Nat), s.inRestart = false →
    ∃ t, exec (.lstopFilterChange low m) s = .next t
      ∧ exec (.lstopFilterChange low (m + n)) s = exec (.lstopFilterChange low n) t)
  ∧ (∀ (s : State) (below : Bool),
    let t : State := { s with supply := { s.supply with belowWarn := below } }
    (s.inRestart = true → exec (.supplyWarnChange below) s = .next t)
    ∧ (s.inRestart = false →
      exec (.supplyWarnChange below) s = .next
        (if below then t.addCause .supplyLow else t.dropCause .supplyLow)))
  ∧ (∀ s : State, s.inRestart = false →
    (s.monitor.reference = true →
      let lost : State :=
        { s with
          monitor :=
            { s.monitor with
              reference := false, scan := none
              ring0 := .invalid, ring1 := .invalid, ring2 := .invalid, ring3 := .invalid
              inclineX := none, inclineY := none, strain := none, ambient := none } }
      (s.site.state.onSite = false → exec .srefLost s = .next lost)
      ∧ (s.site.state.onSite = true →
        exec .srefLost s = .next
          (({ lost with monitor := { lost.monitor with dwellDue := none } }
            : State).setStability .halted)))
    ∧ (s.monitor.reference = false →
      (s.site.state = .unconfigured →
        exec .srefRegained s = .next
          { s with monitor := { s.monitor with reference := true, scan := none } })
      ∧ (s.site.state ≠ .unconfigured →
        exec .srefRegained s = .next
          { s with monitor := { s.monitor with reference := true, scan := some 0 } })))

/-! ### The site link receiver (file 05) -/

/-- An octet heard is first compared with the one going out, if the station is sending (R106; log 23), and
then treated by the receiver's state: the delimiter opens a frame in HUNT, the length octet and the body are
kept, the last octet of a body and the first CRC octet lead to the second, which completes a frame whose CRC
matches; a dominant stop bit in HUNT or GAP_WAIT only leads to GAP_WAIT (R95, R97). FRAME_ARRIVAL commands
the completing octet alone (log 22). -/
def Obligations.OctetsBuildAFrame : Prop :=
  ∀ (s : State) (o : Octet), s.linkActive = true →
    let met := s.compareOctet fun x => x == o
    let missed := s.compareOctet fun _ => false
    let heard : State := { met with rx := { met.rx with idleCount := idleRun o true } }
    (met.rx.phase = .gapWait → exec (.octetReceived o true) s = .next heard)
    ∧ ((s.rx.phase = .gapWait ∨ s.rx.phase = .hunt) →
      exec (.octetReceived o false) s = .next
        { missed with rx := { missed.rx with idleCount := 0, phase := .gapWait } })
    ∧ (met.rx.phase = .hunt →
      (o ≠ 0x96 → exec (.octetReceived o true) s = .next
        { heard with rx := { heard.rx with phase := .gapWait } })
      ∧ (o = 0x96 → met.rx.fill + 4 ≤ 2048 →
        exec (.octetReceived o true) s = .next
          ({ heard with rx := { heard.rx with phase := .length met.txen } } : State).judgeLag))
    ∧ (∀ echo, met.rx.phase = .length echo → 3 ≤ o.toNat → o.toNat ≤ 80 →
      exec (.octetReceived o true) s = .next
        { heard with
          rx :=
            { heard.rx with phase := .body { length := o, octets := [], echo := echo } } })
    ∧ (∀ f, met.rx.phase = .body f → met.rx.fill + 1 ≤ 2048 →
      let g : OpenFrame := { f with octets := f.octets ++ [o] }
      (f.octets.length + 1 < f.length.toNat →
        exec (.octetReceived o true) s = .next
          ({ heard with rx := { heard.rx with phase := .body g } } : State).judgeLag)
      ∧ (f.length.toNat ≤ f.octets.length + 1 →
        exec (.octetReceived o true) s = .next
          ({ heard with rx := { heard.rx with phase := .check g none } } : State).judgeLag))
    ∧ (∀ f, met.rx.phase = .check f none →
      exec (.octetReceived o true) s = .next
        { heard with rx := { heard.rx with phase := .check f (some o) } })
    ∧ (∀ f hi, met.rx.phase = .check f (some hi) → crc (f.length :: f.octets) = hi ++ o →
      let stored : State :=
        { heard with
          rx :=
            { heard.rx with
              phase := .gapWait
              frames :=
                met.rx.frames
                  ++ [{ echo := f.echo, arrival := met.now.setWidth 16, octets := f.octets }] } }
      exec (.octetReceived o true) s = .next stored ∧ exec (.frameArrival o) s = .next stored)

/-- What drops a frame that has passed HUNT (a framing error, a bad length, an overflow, a CRC that does
not match, an idle line) frees its octets, judges the fill and starts view doubt; an overflow at the status
record in HUNT does so too, with what fits of the record written before (R95, R98, R101, R123). Each is
compared with the octet going out before (R106). FRAME_DROP commands the same drop, leaving the line busy
where it is no truncation (log 22). An idle line turns GAP_WAIT to HUNT. A start of view doubt sets its due
time one hold on; where it turns on, a site report is owed, and an announced placement yields or the head is
evaluated (R53, R123, R124). View lag is on above its on-threshold, off below its off-threshold, else kept,
each turn owing a site report and a head evaluation, for the fill of 4 octets a frame and its octets (R96,
R101). -/
def Obligations.DropsStartViewDoubt : Prop :=
  (∀ (s : State) (o : Octet) (f : OpenFrame), s.linkActive = true →
    let dropped (t : State) (idle : Nat) (phase : RxPhase) : State :=
      ({ t with rx := { t.rx with idleCount := idle, phase := phase } } : State).judgeLag.startDoubt
    let met := s.compareOctet fun x => x == o
    let missed := s.compareOctet fun _ => false
    let sent := s.compareOctet fun _ => true
    ((s.rx.phase = .body f ∨ (∃ echo, s.rx.phase = .length echo)
        ∨ ∃ first, s.rx.phase = .check f first) →
      exec (.octetReceived o false) s = .next (dropped missed 0 .gapWait)
      ∧ exec (.frameDrop .framing) s = .next (dropped missed 0 .gapWait)
      ∧ (s.rx.idleCount < 24 → exec .lineIdle s = .next (dropped missed 24 .hunt))
      ∧ exec (.frameDrop .truncated) s = .next (dropped missed 24 .hunt))
    ∧ ((∃ echo, s.rx.phase = .length echo) →
      (o.toNat < 3 ∨ 80 < o.toNat →
        exec (.octetReceived o true) s = .next (dropped met (idleRun o true) .gapWait))
      ∧ exec (.frameDrop .badLength) s = .next (dropped missed 0 .gapWait))
    ∧ (s.rx.phase = .body f → 2048 < s.rx.fill + 1 →
      exec (.octetReceived o true) s = .next (dropped met (idleRun o true) .gapWait)
      ∧ exec (.frameDrop .overflow) s = .next (dropped sent 0 .gapWait))
    ∧ (s.rx.phase = .hunt → 2048 < s.rx.fill + 4 →
      let written (t : State) : State := if s.rx.fill < 2048 then t.judgeLagAt 2048 else t
      (o = 0x96 →
        exec (.octetReceived o true) s = .next
          (dropped
            (written { met with rx := { met.rx with idleCount := idleRun o true } })
            (idleRun o true) .gapWait))
      ∧ exec (.frameDrop .overflow) s = .next
        (dropped (written { sent with rx := { sent.rx with idleCount := 0 } }) 0 .gapWait))
    ∧ (∀ hi, s.rx.phase = .check f (some hi) →
      (crc (f.length :: f.octets) ≠ hi ++ o →
        exec (.octetReceived o true) s = .next (dropped met (idleRun o true) .gapWait))
      ∧ exec (.frameDrop .crcMismatch) s = .next (dropped missed 0 .gapWait))
    ∧ (s.rx.idleCount < 24 → (s.rx.phase = .gapWait ∨ s.rx.phase = .hunt) →
      exec .lineIdle s = .next
        { missed with rx := { missed.rx with idleCount := 24, phase := .hunt } }))
  ∧ (∀ s : State,
    let moved : State :=
      { s with notice := { s.notice with doubtDue := some (later s.now (3 * s.cfg.refresh)) } }
    let on : State := { moved with port := { s.port with siteOwed := true } }
    let announced : Prop :=
      ∃ p ∈ s.admission.queue, p.state = .announcing ∨ p.state = .tentative
    (s.notice.doubtDue ≠ none → s.startDoubt = moved)
    ∧ (s.notice.doubtDue = none →
      (announced → s.startDoubt = on.yieldAnnounced.reevaluate)
      ∧ (¬announced → s.startDoubt = on.evalHead)))
  ∧ (∀ (s : State) (fill : Nat),
    let turned (lag : Bool) : State :=
      ({ s with
          rx := { s.rx with lag := lag }, port := { s.port with siteOwed := true } } : State).evalHead
    (s.rx.lagOn < fill →
      (s.rx.lag = false → s.judgeLagAt fill = turned true)
      ∧ (s.rx.lag = true → s.judgeLagAt fill = s))
    ∧ (fill ≤ s.rx.lagOn → fill < s.rx.lagOff →
      (s.rx.lag = true → s.judgeLagAt fill = turned false)
      ∧ (s.rx.lag = false → s.judgeLagAt fill = s))
    ∧ (fill ≤ s.rx.lagOn → s.rx.lagOff ≤ fill → s.judgeLagAt fill = s))
  ∧ (∀ s : State,
    let complete : Nat := (s.rx.frames.map fun f => 4 + f.octets.length).sum
    s.judgeLag = s.judgeLagAt s.rx.fill
    ∧ ((s.rx.phase = .inactive ∨ s.rx.phase = .gapWait ∨ s.rx.phase = .hunt) →
      s.rx.fill = complete)
    ∧ ((∃ echo, s.rx.phase = .length echo) → s.rx.fill = complete + 4)
    ∧ (∀ f, (s.rx.phase = .body f ∨ ∃ first, s.rx.phase = .check f first) →
      s.rx.fill = complete + (4 + f.octets.length)))

/-! ### The site link transmitter (file 05) -/

/-- The arbiter with no frame current: it discards CLAIM records whose claim has left the list, builds the
frame of the first urgent record that stands, else of the head of the bulk queue, and has the head
evaluated; with both queues empty it takes nothing (R105, R112, R113, R130). A LAID frame carries the solid
height, and for each record its maturity, 16,777,215 for SET and at most 16,777,214 for WET (R13, R35). -/
def Obligations.ArbiterBuildsTheNextFrame : Prop :=
  (∀ (s : State) (dead rest : List UrgentRecord), s.linkActive = true → s.tx.current = none →
    (∀ r ∈ dead, ∃ n, r = .claim n ∧ s.ownClaim n = none) →
    let built (source : FrameSource) (n : Notice) : Option CurrentFrame :=
      some
        { source := source, octets := frameOctets (n.payload (BitVec.ofNat 8 s.cfg.station))
          sent := 0, collisions := 0, phase := .waiting, lastAttempt := false }
    (∀ n c, s.tx.urgent = dead ++ .claim n :: rest → s.ownClaim n = some c →
      exec .arbiterTake s = .next
        (({ s with
            claims :=
              { s.claims with
                own := s.claims.own.map fun x =>
                  if x.number = n then { x with announce := .nothing } else x }
            tx :=
              { s.tx with
                urgent := rest
                current :=
                  built (.claim n false)
                    (.claim c.number c.state.code (BitVec.ofNat 16 c.precedence)
                      (BitVec.ofNat 16 (3 * s.cfg.refresh)) (c.cells.map (BitVec.ofNat 16))) } }
          : State).evalHead))
    ∧ (∀ n, s.tx.urgent = dead ++ .release n :: rest →
      exec .arbiterTake s = .next
        (({ s with
            tx := { s.tx with urgent := rest, current := built (.release n) (.release n) } }
          : State).evalHead))
    ∧ (s.tx.urgent = dead →
      (s.tx.bulk = [] →
        (dead = [] → exec .arbiterTake s = .next s)
        ∧ (dead ≠ [] →
          exec .arbiterTake s = .next
            ({ s with tx := { s.tx with urgent := [] } } : State).evalHead))
      ∧ (∀ w bulk, s.tx.bulk = .ownAnnounce w :: bulk →
        let records :=
          (s.map.records.filter fun r => r.slot.wall == w && r.own && r.owed).take 12
        exec .arbiterTake s = .next
          (({ s with
              tx :=
                { s.tx with
                  urgent := [], bulk := bulk
                  current :=
                    built (.ownAnnounce w (ownSlots records)) (s.laidNotice w records) } }
            : State).evalHead))
      ∧ (∀ w cursor bulk, s.tx.bulk = .answer w cursor :: bulk →
        let records := (s.recordsAfter w cursor).take 12
        exec .arbiterTake s = .next
          (({ s with
              walls := s.walls.modify w fun p => { p with answer := .answering }
              tx :=
                { s.tx with
                  urgent := []
                  current :=
                    built
                      (.answer w (ownSlots records) (records.getLast?.map SlotRecord.slot))
                      (s.laidNotice w records) } }
            : State).evalHead))
      ∧ (∀ p bulk, s.tx.bulk = .survey :: bulk → s.notice.survey = some p →
        exec .arbiterTake s = .next
          (({ s with
              notice := { s.notice with survey := none }
              tx :=
                { s.tx with
                  urgent := [], bulk := bulk
                  current := built (.survey p.select) (.survey p.select.code) } }
            : State).evalHead))))
  ∧ (∀ (s : State) (w : Nat) (records : List SlotRecord),
    s.laidNotice w records
      = .laid (BitVec.ofNat 8 w) (BitVec.ofNat 8 (s.wall w).solidHeight)
          (records.map s.laidEntry))
  ∧ (∀ (s : State) (r : SlotRecord),
    let entry (maturity : Nat) : LaidEntry :=
      { course := BitVec.ofNat 8 r.slot.course, pos := BitVec.ofNat 16 r.slot.pos
        maturity := BitVec.ofNat 24 maturity }
    (r.state = .set → s.laidEntry r = entry 16777215)
    ∧ ∀ (stamp : Accum) (d : WallDef), r.state = .wet stamp →
      (s.wall r.slot.wall).definition = some d →
        s.laidEntry r = entry (min ((s.cureClass d.cls).accum - stamp).toNat 16777214))

/-- An attempt starts, from the delimiter, when the current frame waits and the line is idle, and a backoff
ends (R106, R108). While it is sent, each octet heard is compared with the one going out: one that agrees
has gone out, any other is a collision, and a frame sent whole meets none: the model's comparison octet by
octet (log 23) for the bit by bit one of R106 and R107. A collision before the
tenth, of a frame that may be tried again, begins a backoff of r slots, r a free draw held to 0..2^m − 1 with
m the smaller of the collision count and 6 (R108; log 10). The tenth drops the frame: the send-fail kind is
kept and a site report owed; an answer ends, the waiting sources taking the free bulk places first (log 12);
a claim never sent fails its placement's announce with LINK_FAIL, a claim sent before requests an announce,
an abandoned one is dismissed (R75, R110, R111). An
earlier collision of a frame that may not be tried again discards it (R110, R114, R181; log 26). -/
def Obligations.AttemptsSendOrCollide : Prop :=
  ∀ (s : State) (f : CurrentFrame), s.linkActive = true → s.tx.current = some f →
    (f.phase = .waiting → s.rx.idleCount = 24 →
      exec .attemptStart s = .next
        { s with
          rx := { s.rx with idleCount := 0 }
          tx := { s.tx with current := some { f with sent := 0, phase := .sending } } })
    ∧ (∀ r, f.phase = .backoff r →
      exec .backoffEnd s = .next
        { s with tx := { s.tx with current := some { f with sent := 0, phase := .waiting } } })
    ∧ (f.phase ≠ .sending ∨ f.octets.length ≤ f.sent →
      (∀ agrees, s.compareOctet agrees = s) ∧ exec .collision s = .next s)
    ∧ (f.phase = .sending → f.sent < f.octets.length →
      (∀ (o : Octet) (agrees : Octet → Bool), f.octets[f.sent]? = some o →
        (agrees o = true →
          s.compareOctet agrees
            = { s with tx := { s.tx with current := some { f with sent := f.sent + 1 } } })
        ∧ (agrees o = false → exec .collision s = .next (s.compareOctet agrees)))
      ∧ (let ended : State :=
          { s with
            rx := { s.rx with phase := s.rx.phase.loseEcho }
            tx := { s.tx with current := none } }
        let failed (kind : SendFail) : State :=
          { ended with
            tx := { ended.tx with lastFail := some kind }
            port := { s.port with siteOwed := true } }
        let final : Prop :=
          f.lastAttempt = true
            ∨ ∃ n gone, f.source = .claim n gone
              ∧ (gone = true ∨ ∀ c, s.ownClaim n = some c → c.abandoned = true)
        (f.collisions + 1 < 10 → ¬final →
          exec .collision s = .next
            { ended with
              tx :=
                { ended.tx with
                  current :=
                    some
                      { f with
                        sent := 0
                        collisions := f.collisions + 1
                        phase :=
                          .backoff
                            (Config.backoffDraw s.freeCount % 2 ^ min (f.collisions + 1) 6) } }
              freeCount := s.freeCount + 1 })
        ∧ (f.collisions + 1 < 10 → final →
          ((∀ n, f.source = .claim n false → s.ownClaim n = none) →
            exec .collision s = .next ended)
          ∧ (∀ n c, f.source = .claim n false → s.ownClaim n = some c →
            exec .collision s = .next (ended.dismissClaim c).reevaluate))
        ∧ (10 ≤ f.collisions + 1 →
          (∀ n, f.source = .release n → exec .collision s = .next (failed .release))
          ∧ (∀ w own, f.source = .ownAnnounce w own → exec .collision s = .next (failed .laid))
          ∧ (∀ select, f.source = .survey select → exec .collision s = .next (failed .survey))
          ∧ (∀ w own last, f.source = .answer w own last →
            (f.lastAttempt = false →
              exec .collision s = .next ((failed .answer).serveBulk.endAnswer w))
            ∧ (f.lastAttempt = true → exec .collision s = .next (failed .answer)))
          ∧ (∀ n gone, f.source = .claim n gone → gone = true ∨ s.ownClaim n = none →
            exec .collision s = .next (failed .claim))
          ∧ (∀ n c, f.source = .claim n false → s.ownClaim n = some c →
            (c.abandoned = true →
              exec .collision s = .next ((failed .claim).dismissClaim c).reevaluate)
            ∧ (c.abandoned = false → c.lastSend = none →
              exec .collision s = .next
                ((((failed .claim).deleteClaim n).mapTag c.tag .announcing fun p =>
                  { p with
                    state := .waitCells, reason := some (.wait .linkFail), blocking := none
                    missing := none, supportDue := none
                    holdoff := some (later s.now s.cfg.refresh) }).reevaluate))
            ∧ (c.abandoned = false → ∀ t, c.lastSend = some t →
              exec .collision s = .next ((failed .claim).requestAnnounce n))))))

/-- A frame whose octets have all gone out without a mismatch is sent (R109): a RELEASE has no further
effect, a LAID frame clears the marks it carried, a SURVEY opens its windows, an answer moves on, a CLAIM's
send time is kept and its refresh mark cleared (log 21), its first send starting the settle and making the
placement TENTATIVE, and an abandoned claim is deleted with its RELEASE queued (R74, R14, R131, R113, R52).
A frame finishing after the end of LEAVING moves no answer and opens no window, a CLAIM whose claim is gone
has no effect (R76, R129, R131). When an answer frame has been sent, also one that finishes so, the waiting
sources first take the free bulk places (log 12), and the height-owed mark is cleared even if it carried no
own record (log 30). The echo of the frame being received stays as it was heard (log 23). -/
def Obligations.SentFramesTakeEffect : Prop :=
  ∀ (s : State) (f : CurrentFrame), s.linkActive = true → s.tx.current = some f →
    f.phase = .sending →
    (f.sent < f.octets.length → exec .sendCompletion s = .next s)
    ∧ (f.octets.length ≤ f.sent →
      let ended : State := { s with tx := { s.tx with current := none } }
      let cleared (t : State) (w : Nat) (own : List Slot) : State :=
        { t with
          map :=
            { t.map with
              records := t.map.records.map fun r =>
                if r.own && own.contains r.slot then { r with owed := false } else r }
          walls := t.walls.modify w fun p => { p with heightOwed := false } }
      let opened (p : WallPlace) : WallPlace :=
        { p with
          window := some { due := later s.now (4 * s.cfg.refresh), dropMark := false } }
      (∀ n, f.source = .release n → exec .sendCompletion s = .next ended)
      ∧ (∀ w own, f.source = .ownAnnounce w own →
        exec .sendCompletion s = .next (cleared ended w own))
      ∧ (∀ w own last, f.source = .answer w own last →
        (f.lastAttempt = false →
          exec .sendCompletion s = .next ((cleared ended.serveBulk w own).advanceAnswer w last))
        ∧ (f.lastAttempt = true →
          exec .sendCompletion s = .next (cleared ended.serveBulk w own)))
      ∧ (∀ select, f.source = .survey select → f.lastAttempt = true →
        exec .sendCompletion s = .next ended)
      ∧ (∀ w, f.source = .survey (.one w) → f.lastAttempt = false →
        exec .sendCompletion s = .next { ended with walls := s.walls.modify w opened })
      ∧ (f.source = .survey .all → f.lastAttempt = false → s.walls.length ≤ 16 →
        exec .sendCompletion s = .next
          { ended with
            walls := s.walls.map fun p => if p.definition.isSome then opened p else p })
      ∧ (∀ n gone, f.source = .claim n gone → gone = true ∨ s.ownClaim n = none →
        exec .sendCompletion s = .next ended)
      ∧ (∀ n c, f.source = .claim n false → s.ownClaim n = some c → c.abandoned = false →
        let sent : State :=
          ended.mapClaim n fun x =>
            { x with
              lastSend := some s.now, refreshTaken := false, lapsed := false
              settleDue :=
                if x.lastSend.isNone then some (later s.now s.cfg.settle) else x.settleDue }
        (c.lastSend = none →
          exec .sendCompletion s = .next
            (sent.mapTag c.tag .announcing fun p => { p with state := .tentative }).judgeLapse)
        ∧ (∀ t, c.lastSend = some t → exec .sendCompletion s = .next sent.judgeLapse))
      ∧ (∀ n c, f.source = .claim n false → s.ownClaim n = some c → c.abandoned = true →
        exec .sendCompletion s = .next ((ended.deleteClaim n).queueRelease n).reevaluate))

/-! ### The survey responder and the notice processor (file 06) -/

/-- SURVEY in LISTENING or ONLINE of a defined wall, or of all, makes a notice pending, or widens one that
names another value to all walls (R130), behind the sources already waiting for a bulk place. Those take the
free places in the order of R104: an owed SURVEY, the waiting walls in their order, the walls with something
to announce in ascending order (log 12); the three rows give one place each (R13, R127, R130). -/
def Obligations.SurveyRequestsAndBulkPlaces : Prop :=
  (∀ (s : State) (w : Octet), s.readyFor (.surveyRequest w) → s.site.state.joined = true →
    let named : WallSelect := if w.toNat = 255 then .all else .one w.toNat
    let served := (s.taken (.surveyRequest w)).serveBulk
    let pending (p : PendingSurvey) : State :=
      { served with notice := { served.notice with survey := some p } }
    w.toNat = 255 ∨ w.toNat ≤ 15 ∧ (s.wall w.toNat).definition.isSome = true →
      (served.notice.survey = none →
        exec (.surveyRequest w) s = .next
          ((pending { select := named, queued := false }).produce 0x31 .ok .plain))
      ∧ (∀ p, served.notice.survey = some p →
        (p.select = named →
          exec (.surveyRequest w) s = .next ((pending p).produce 0x31 .ok .plain))
        ∧ (p.select ≠ named →
          exec (.surveyRequest w) s = .next
            ((pending { select := .all, queued := p.queued }).produce 0x31 .ok .plain))))
  ∧ (∀ s : State, s.inRestart = false →
    (∀ p, s.notice.survey = some p → p.queued = false → s.tx.bulk.length < 16 →
      exec .surveyNoticeQueued s = .next
        { s with
          notice := { s.notice with survey := some { p with queued := true } }
          tx := { s.tx with bulk := s.tx.bulk ++ [.survey] } })
    ∧ (∀ w rest, s.notice.waitingWalls = w :: rest →
      (∀ p, s.notice.survey = some p → p.queued = true) → s.tx.bulk.length < 16 →
        exec .surveyAnswerQueued s = .next
          { s with
            notice := { s.notice with waitingWalls := rest }
            walls := s.walls.modify w fun p => { p with answer := .queued }
            tx := { s.tx with bulk := s.tx.bulk ++ [.answer w none] } })
    ∧ (∀ w, w < 16 → s.site.state.onSite = true → s.notice.waitingWalls = [] →
      (∀ p, s.notice.survey = some p → p.queued = true) → s.tx.bulk.length < 16 →
      s.wallOwes w = true → s.tx.announcing w = false →
      (∀ v, v < w → s.wallOwes v = false ∨ s.tx.announcing v = true) →
        exec .ownAnnounceQueued s = .next
          { s with tx := { s.tx with bulk := s.tx.bulk ++ [.ownAnnounce w] } }))
  ∧ (∀ s : State, s.inRestart = false →
    let owed : List BulkRecord := if s.surveyOwed && s.bulkFree then [.survey] else []
    (∃ k, s.serveOlder.tx.bulk
          = s.tx.bulk ++ owed
            ++ ((s.notice.waitingWalls.take k).map fun w => BulkRecord.answer w none)
        ∧ s.serveOlder.notice.waitingWalls = s.notice.waitingWalls.drop k)
    ∧ (∃ walls : List Nat,
        s.serveBulk.tx.bulk = s.serveOlder.tx.bulk ++ walls.map BulkRecord.ownAnnounce
        ∧ walls.Pairwise (· < ·)
        ∧ ∀ w ∈ walls, s.wallOwes w = true ∧ s.tx.announcing w = false)
    ∧ s.serveOlder.surveyReady = false ∧ s.serveOlder.answerReady = false
    ∧ s.serveBulk.surveyReady = false ∧ s.serveBulk.answerReady = false
    ∧ s.serveBulk.announceReady = false)
  ∧ (∀ (s : State) (w : Nat),
    s.wallOwes w = true ↔
      (∃ r ∈ s.map.records, r.slot.wall = w ∧ r.own = true ∧ r.owed = true)
        ∨ (s.wall w).heightOwed = true)

/-- A SURVEY of a wall: an IDLE wall has its answer queued behind every source that waits, or waits itself
if no bulk place is free; a WAITING or QUEUED wall is answered as it stands; an ANSWERING one takes the
again mark (R126). A frame of an answer sent moves its cursor to the last record carried; with records
beyond it the answer goes on, with none it ends: its record leaves the bulk queue, the wall becomes IDLE,
and the again mark starts a fresh answer (R113, R127, R128; log 12). -/
def Obligations.SurveysAreAnswered : Prop :=
  (let queued (t : State) (w : Nat) : State :=
    if t.tx.bulk.length < 16 then
      { t with
        walls := t.walls.modify w fun p => { p with answer := .queued }
        tx := { t.tx with bulk := t.tx.bulk ++ [.answer w none] } }
    else
      { t with
        walls := t.walls.modify w fun p => { p with answer := .waiting }
        notice := { t.notice with waitingWalls := t.notice.waitingWalls ++ [w] } }
  (∀ (s : State) (w : Nat),
    ((s.wall w).answer = .idle → s.surveyWall w = queued s.serveBulk w)
    ∧ ((s.wall w).answer = .waiting ∨ (s.wall w).answer = .queued → s.surveyWall w = s)
    ∧ ((s.wall w).answer = .answering →
      s.surveyWall w
        = { s with walls := s.walls.modify w fun p => { p with again := true } }))
  ∧ (∀ (s : State) (w : Nat),
    let ended : State :=
      { s with
        walls := s.walls.modify w fun p => { p with answer := .idle, again := false }
        tx := { s.tx with bulk := s.tx.bulk.tail } }
    ((s.wall w).again = false → s.endAnswer w = ended)
    ∧ ((s.wall w).again = true → s.endAnswer w = queued ended.serveOlder w)))
  ∧ (∀ (s : State) (v w : Nat) (cursor last : Option Slot) (rest : List BulkRecord),
    s.tx.bulk = .answer v cursor :: rest →
    let next : Option Slot := if last.isSome then last else cursor
    let beyond (r : SlotRecord) : Prop :=
      r ∈ s.map.records ∧ r.slot.wall = w ∧ ∀ k, next = some k → k.before r.slot = true
    ((∀ r, ¬beyond r) → s.advanceAnswer w last = s.endAnswer w)
    ∧ (∀ r, beyond r →
      s.advanceAnswer w last
        = { s with tx := { s.tx with bulk := .answer w next :: rest } }))

/-- NOTICE_TAKE first takes a FIRM decision that is due (log 16), and then the oldest complete frame: an echo
is discarded, a malformed
frame starts view doubt, a frame with this station's number is a clash on the site, and a notice is passed
on by kind and site state; then the read position moves past the frame, the fill is judged and a claim
that waited for it is told (R115 to R117, R119, R121; log 16). -/
def Obligations.FramesAreTakenAndFinished : Prop :=
  ∀ (s t : State) (f : StoredFrame) (rest : List StoredFrame), s.linkActive = true →
    s.notice.processing = none → s.rx.frames = f :: rest →
    let due (c : OwnClaim) : Prop :=
      c.abandoned = false ∧ c.state = .tentative ∧ c.decision = .due
    ((∀ c ∈ s.claims.own, ¬due c) ∧ t = s
      ∨ ∃ before c after, s.claims.own = before ++ c :: after ∧ (∀ x ∈ before, ¬due x) ∧ due c
          ∧ t = s.decide c) →
    let held : State := { t with notice := { t.notice with processing := some t.rx.readPos } }
    let finished (u : State) : State :=
      let v : State :=
        ({ u with
            rx :=
              { u.rx with
                frames := u.rx.frames.tail
                readPos := (t.rx.readPos + (4 + f.octets.length)) % 2048 } } : State).judgeLag
      { v with
        notice := { v.notice with processing := none }
        claims :=
          { v.claims with
            own := v.claims.own.map fun c =>
              if c.decision = .waitingFor t.rx.readPos then { c with decision := .due } else c } }
    (f.echo = true → exec .noticeTake s = .next (finished held))
    ∧ (∀ sender kind body, f.echo = false → f.octets = sender :: kind :: body →
      (sender.toNat < 1 ∨ 30 < sender.toNat →
        exec .noticeTake s = .next (finished held.startDoubt))
      ∧ (1 ≤ sender.toNat → sender.toNat ≤ 30 →
        let met : State :=
          if sender.toNat = t.cfg.station ∧ t.site.state.onSite = true then
            held.addCause .stationClash
          else held
        (decodeNotice kind body = none →
          exec .noticeTake s = .next (finished met.startDoubt))
        ∧ (∀ n, decodeNotice kind body = some n →
          exec .noticeTake s = .next
            (finished
              (met.passNotice sender.toNat (fullArrival t.now f.arrival) n)))))

/-- A notice passed on (R117): a CLAIM of a peer that is in range and not expired is entered in the peer
table and the conflicts are judged again, one that finds no place or is out of range starts view doubt, one
already expired removes its entry, and one with the own station number is ignored, malformed or not
(log 29); a RELEASE removes its entry; a LAID reaches the map; a SURVEY of a joined station's wall reaches
the responder (R78, R80, R15, R126). The peer table: an entry of the same key is overwritten in place, a
station's third entry drops its oldest, a full table first loses its expired entries (R79). -/
def Obligations.NoticesReachTheirBlocks : Prop :=
  (∀ (s : State) (sender : Nat) (arrival : LocalTime),
    (∀ (number state : Octet) (precedence hold : Word16) (cells : List Word16),
      s.site.state.onSite = true →
      let claim : Notice := .claim number state precedence hold cells
      let entry (st : ClaimState) : PeerEntry :=
        { station := sender, number := number, state := st, precedence := precedence.toNat
          cells := cells.map BitVec.toNat, expiry := arrival + hold.setWidth 32 }
      let good : Prop :=
        precedence.toNat ≤ 2046 ∧ 1 ≤ cells.length ∧ cells.length ≤ 16
          ∧ ∀ c ∈ cells, c.toNat ≤ 16383
      (sender = s.cfg.station → s.passNotice sender arrival claim = s)
      ∧ (sender ≠ s.cfg.station →
        (∀ st, ClaimState.ofCode state = some st → good →
          (reached s.now (entry st).expiry = false →
            (∀ peers, enterPeer s.now (entry st) s.claims.peers = some peers →
              s.passNotice sender arrival claim
                = ({ s with claims := { s.claims with peers := peers } } : State).reevaluate)
            ∧ (enterPeer s.now (entry st) s.claims.peers = none →
              s.passNotice sender arrival claim = s.startDoubt))
          ∧ (reached s.now (entry st).expiry = true →
            ((∀ e ∈ s.claims.peers, ¬(e.station = sender ∧ e.number = number)) →
              s.passNotice sender arrival claim = s)
            ∧ (∀ e ∈ s.claims.peers, e.station = sender → e.number = number →
              s.passNotice sender arrival claim
                = ({ s with
                    claims :=
                      { s.claims with
                        peers := s.claims.peers.filter fun x =>
                          !(x.station == sender && x.number == number) } } : State).reevaluate)))
        ∧ (ClaimState.ofCode state = none ∨ ¬good →
          s.passNotice sender arrival claim = s.startDoubt)))
    ∧ (∀ (number : Octet), s.site.state.onSite = true →
      ((∀ e ∈ s.claims.peers, ¬(e.station = sender ∧ e.number = number)) →
        s.passNotice sender arrival (.release number) = s)
      ∧ (∀ e ∈ s.claims.peers, e.station = sender → e.number = number →
        s.passNotice sender arrival (.release number)
          = ({ s with
              claims :=
                { s.claims with
                  peers := s.claims.peers.filter fun x =>
                    !(x.station == sender && x.number == number) } } : State).reevaluate))
    ∧ (∀ (wall height : Octet) (entries : List LaidEntry),
      s.passNotice sender arrival (.laid wall height entries)
        = s.applyLaid sender wall.toNat height.toNat entries)
    ∧ (∀ wall : Octet, s.site.state.joined = true →
      (wall.toNat < 16 → (s.wall wall.toNat).definition.isSome = true →
        s.passNotice sender arrival (.survey wall) = s.surveyWall wall.toNat)
      ∧ (wall.toNat < 16 → (s.wall wall.toNat).definition = none →
        s.passNotice sender arrival (.survey wall) = s)
      ∧ (wall = 255 →
        s.passNotice sender arrival (.survey wall) = s.definedWalls.foldl State.surveyWall s))
    ∧ (s.site.state.onSite = false →
      (∀ number state precedence hold cells,
        s.passNotice sender arrival (.claim number state precedence hold cells) = s)
      ∧ (∀ number, s.passNotice sender arrival (.release number) = s))
    ∧ (s.site.state.joined = false →
      ∀ wall, s.passNotice sender arrival (.survey wall) = s))
  ∧ (∀ (now : LocalTime) (e : PeerEntry) (peers : List PeerEntry),
    let keyed (x : PeerEntry) : Prop := x.station = e.station ∧ x.number = e.number
    let ofStation : Nat := peers.countP fun x => x.station == e.station
    ((∃ x ∈ peers, keyed x) →
      enterPeer now e peers
        = some
          (peers.map fun x => if x.station = e.station ∧ x.number = e.number then e else x))
    ∧ ((∀ x ∈ peers, ¬keyed x) →
      (2 ≤ ofStation → ∀ (before after : List PeerEntry) (oldest : PeerEntry),
        peers = before ++ oldest :: after → oldest.station = e.station →
        (∀ x ∈ before, x.station ≠ e.station) →
          enterPeer now e peers = some (before ++ after ++ [e]))
      ∧ (ofStation < 2 →
        (peers.length < 48 → enterPeer now e peers = some (peers ++ [e]))
        ∧ (48 ≤ peers.length →
          let live := peers.filter fun x => !reached now x.expiry
          (live.length < 48 → enterPeer now e peers = some (live ++ [e]))
          ∧ (48 ≤ live.length → enterPeer now e peers = none)))))

/-- A LAID notice (R15): a wall not defined is left as it is; else the carried solid height is applied and
then the entries, one after another. A greater height, held to the top course + 1, deletes the records below
it, setting the height-owed mark if one was own and owed, and makes the retirement check (R20). An entry
below the height or out of range is ignored; for an OPEN slot it makes a peer record, SET or WET with the
maturity carried, or is dropped where 1,022 records are held, setting the gap flag and the window's drop
mark (R16, R18); for a peer record the greater maturity is kept; for an own record a DOUBLE_LAY fault is
recorded (R17). Each change is told to admission, and a record made SET in the lowest unretired course
starts the retirement check (R19, R22). -/
def Obligations.LaidNoticesChangeTheMap : Prop :=
  (∀ (s : State) (sender w height : Nat),
    ((s.wall w).definition = none → ∀ entries, s.applyLaid sender w height entries = s)
    ∧ ∀ d, (s.wall w).definition = some d →
      s.applyLaid sender w height [] = s.applyHeight w d height
      ∧ (∀ (entries : List LaidEntry) (e : LaidEntry),
        s.applyLaid sender w height (entries ++ [e])
          = (s.applyLaid sender w height entries).applyEntry w sender e)
      ∧ (let h := min height (d.top + 1)
        (h ≤ (s.wall w).solidHeight → s.applyHeight w d height = s)
        ∧ ((s.wall w).solidHeight < h →
          s.applyHeight w d height =
            (({ s with
                map :=
                  { s.map with
                    records := s.map.records.filter fun r =>
                      !(r.slot.wall == w && r.slot.course < h) }
                walls := s.walls.modify w fun p =>
                  { p with
                    solidHeight := h
                    heightOwed :=
                      p.heightOwed
                        || s.map.records.any fun r =>
                          r.slot.wall == w && r.slot.course < h && r.own && r.owed } }
              : State).mapChanged).checkRetirement w)))
  ∧ (∀ (s : State) (w sender : Nat) (d : WallDef) (e : LaidEntry),
    (s.wall w).definition = some d →
    let slot : Slot := { wall := w, course := e.course.toNat, pos := e.pos.toNat }
    let m := e.maturity.toNat
    let c := s.cureClass d.cls
    let carried : Adhesive :=
      if m = 16777215 ∨ c.threshold ≤ m then .set else .wet (c.accum - BitVec.ofNat 32 m)
    let changed (r : SlotRecord) : State :=
      let told :=
        ({ s with map := { s.map with records := insertRecord r s.map.records } }
          : State).mapChanged
      if r.state = .set ∧ slot.course = (told.wall w).solidHeight then told.checkRetirement w
      else told
    (slot.course < (s.wall w).solidHeight ∨ d.inRange slot.course slot.pos = false →
      s.applyEntry w sender e = s)
    ∧ ((s.wall w).solidHeight ≤ slot.course → d.inRange slot.course slot.pos = true →
      (s.recordAt slot = none →
        (s.map.records.length < 1022 →
          s.applyEntry w sender e
            = changed
              { slot := slot, state := carried, laidBy := sender, own := false, owed := false })
        ∧ (1022 ≤ s.map.records.length →
          let dropped : State :=
            { s with
              walls := s.walls.modify w fun p =>
                { p with
                  gap := true, window := p.window.map fun x => { x with dropMark := true } } }
          ((s.wall w).gap = true → s.applyEntry w sender e = dropped)
          ∧ ((s.wall w).gap = false →
            s.applyEntry w sender e
              = ({ dropped with port := { s.port with siteOwed := true } } : State).mapChanged)))
      ∧ ∀ r, s.recordAt slot = some r →
        (r.own = true →
          s.applyEntry w sender e =
            { s with
              map := { s.map with fault := some { slot := slot, peer := some sender } }
              port := { s.port with siteOwed := true } })
        ∧ (r.own = false →
          (r.state = .set → s.applyEntry w sender e = s)
          ∧ ∀ stamp, r.state = .wet stamp →
            (carried = .set ∨ maturity c.accum stamp < m →
              s.applyEntry w sender e = changed { r with state := carried })
            ∧ (carried ≠ .set → m ≤ maturity c.accum stamp → s.applyEntry w sender e = s))))

/-! ### The cure unit (file 02) -/

/-- A cure tick adds to each accumulator min(240, T − D), or nothing where T is absent or not above D;
the next tick falls due 1,000 ms after this one's due time; the held mark follows T's absence, a change
owing a site report; then the sweep runs (R28 to R31). A tick that falls due while a SET-CURE makes its
conversion walk waits for it (R25), the walk being under way while its request holds the intake (log 5). -/
def Obligations.CureTicksAccumulate : Prop :=
  ∀ (s : State) (due : LocalTime), s.linkActive = true → s.cure.tickDue = some due →
    reached s.now due = true →
      ((∀ r, s.port.intake = some r → s.walksFor r = false) →
        exec .cureTick s = .next
          ({ s with
              cure :=
                { classes := s.cure.classes.map fun c =>
                    { c with
                      accum :=
                        c.accum
                          + BitVec.ofNat 32
                              (match s.monitor.ambient with
                                | none => 0
                                | some t =>
                                  if t ≤ c.datum then 0 else min 240 (t - c.datum).toNat) }
                  tickDue := some (due + 1000#32)
                  held := s.monitor.ambient.isNone }
              port :=
                { s.port with
                  siteOwed := s.port.siteOwed || (s.cure.held != s.monitor.ambient.isNone) } }
            : State).sweep)
      ∧ (∀ r, s.port.intake = some r → s.walksFor r = true → exec .cureTick s = .next s)

/-- A walk takes the WET records in key order, the sweep of a tick and of a restart all of them (R31, R37),
the conversion walk those on walls of its class (R25): one whose maturity has reached its class's threshold
turns SET, is told to admission, and starts the retirement check if it lies in the lowest unretired course
(R32). A course whose every slot is SET retires: its records go, the solid height rises by one, the
height-owed mark is set if one of them was own and owed, and the check is made again (R19). -/
def Obligations.WalksTurnRecordsSet : Prop :=
  (∀ s : State,
    (let wet : List Slot := (s.map.records.filter fun r => r.state != .set).map SlotRecord.slot
    s.sweep = wet.foldl State.walkSlot s
    ∧ ∀ k, s.conversionWalk k =
        (wet.filter fun slot =>
          (s.wall slot.wall).definition.any fun d => d.cls == k).foldl State.walkSlot s)
    ∧ ∀ slot : Slot,
      (s.recordAt slot = none → s.walkSlot slot = s)
      ∧ ∀ r, s.recordAt slot = some r →
        (r.state = .set → s.walkSlot slot = s)
        ∧ ∀ (stamp : Accum) (d : WallDef), r.state = .wet stamp →
          (s.wall slot.wall).definition = some d →
          let c := s.cureClass d.cls
          let told :=
            ({ s with
                map :=
                  { s.map with records := insertRecord { r with state := .set } s.map.records } }
              : State).mapChanged
          ((c.accum - stamp).toNat < c.threshold → s.walkSlot slot = s)
          ∧ (c.threshold ≤ (c.accum - stamp).toNat →
            s.walkSlot slot =
              if slot.course = (told.wall slot.wall).solidHeight then
                told.checkRetirement slot.wall
              else told))
  ∧ (∀ (s : State) (w : Nat),
    ((s.wall w).definition = none → s.checkRetirement w = s)
    ∧ ∀ d, (s.wall w).definition = some d → d.top ≤ 63 →
      let h := (s.wall w).solidHeight
      let retires : Prop :=
        h ≤ d.top
          ∧ ∀ p, p < d.slotCount h → ∃ r,
            s.recordAt { wall := w, course := h, pos := p } = some r ∧ r.state = .set
      (¬retires → s.checkRetirement w = s)
      ∧ (retires →
        s.checkRetirement w =
          ({ s with
              map :=
                { s.map with
                  records := s.map.records.filter fun r =>
                    !(r.slot.wall == w && r.slot.course < h + 1) }
              walls := s.walls.modify w fun p =>
                { p with
                  solidHeight := h + 1
                  heightOwed :=
                    p.heightOwed
                      || s.map.records.any fun r =>
                        r.slot.wall == w && r.slot.course < h + 1 && r.own && r.owed } }
            : State).mapChanged.checkRetirement w))

/-! ### The stability monitor (file 07) -/

/-- An evaluation of the stability state: a halt condition makes it HALTED and ends the dwell (R144);
HALTED turns PAUSED with every measure below its off-level, starting the dwell (R145); CALM turns PAUSED by
wind or an invalid temperature (R146); PAUSED turns CALM with the wind below its off-level, a valid
temperature and the dwell over (R147). Each change moves STABILITY, owes a stability report and is told to
admission; leaving CALM, or the cause, makes an announced placement yield (R53, R148). A cause that joins
makes an announced placement yield, once, or else has the head evaluated; one that leaves has the head
evaluated; a cause already there, or absent, changes nothing (R151, R157). A motion limit timer suspended
holds what remains of it, 0 once it is due (R59). A halt condition cancels the dwell also where it is a loss
of the reference (log 33). -/
def Obligations.StabilityIsEvaluated : Prop :=
  (∀ s : State,
    let m := s.monitor
    let l := m.limits
    let ending (due : Option LocalTime) : State :=
      { s with monitor := { m with dwellDue := due } }
    let atLeast (x : Option Nat) (level : Nat) : Prop := ∃ v, x = some v ∧ level ≤ v
    let below (x : Option Nat) (level : Nat) : Prop := ∃ v, x = some v ∧ v < level
    let halts : Prop :=
      atLeast m.gust l.gustHaltOn ∨ atLeast m.inclineX l.inclineOn ∨ atLeast m.inclineY l.inclineOn
        ∨ atLeast m.strain l.strainOn ∨ m.inclineX = none ∨ m.inclineY = none ∨ m.strain = none
    let leaves : Prop :=
      below m.gust l.gustHaltOff ∧ below m.inclineX l.inclineOff ∧ below m.inclineY l.inclineOff
        ∧ below m.strain l.strainOff
    let pauses : Prop := atLeast m.gust l.gustPauseOn ∨ m.ambient = none
    let calms : Prop := below m.gust l.gustPauseOff ∧ m.ambient ≠ none
    (halts → s.evaluateStability = (ending none).setStability .halted)
    ∧ (¬halts →
      (m.state = .halted →
        (leaves →
          s.evaluateStability =
            (ending
              (if l.dwell = 0 then none
              else some (later s.now (l.dwell * 1000)))).setStability .paused)
        ∧ (¬leaves → s.evaluateStability = s))
      ∧ (m.state = .calm →
        (pauses → s.evaluateStability = s.setStability .paused)
        ∧ (¬pauses → s.evaluateStability = s))
      ∧ (m.state = .paused →
        ((∀ due, m.dwellDue = some due → reached s.now due = true) →
          (calms → s.evaluateStability = (ending none).setStability .calm)
          ∧ (¬calms → s.evaluateStability = ending none))
        ∧ (∀ due, m.dwellDue = some due → reached s.now due = false →
          s.evaluateStability = s))))
  ∧ (∀ (s : State) (new : Stability),
    (s.monitor.state = new → s.setStability new = s)
    ∧ (s.monitor.state ≠ new →
      let written : State :=
        { s with
          monitor := { s.monitor with state := new }
          port := { s.port with stabilityOwed := true } }
      let moved : State :=
        if new = .halted then written.causeJoins .stability else written.causeLeaves .stability
      let announced : Prop :=
        ∃ p ∈ s.admission.queue, p.state = .announcing ∨ p.state = .tentative
      ((s.monitor.state = .calm ∨ new = .halted) → announced →
        s.setStability new = moved.yieldAnnounced.reevaluate)
      ∧ (¬((s.monitor.state = .calm ∨ new = .halted) ∧ announced) →
        s.setStability new = moved.evalHead)))
  ∧ (∀ (s : State) (c : Cause),
    (s.stop.causes.has c = true → s.causeJoins c = s)
    ∧ (s.stop.causes.has c = false → s.causeLeaves c = s
      ∧ (s.stop.latch = true →
        s.causeJoins c =
          { s with
            stop :=
              { s.stop with
                causes := s.stop.causes.assign c true
                seen := if c ∈ s.stop.seen then s.stop.seen else s.stop.seen ++ [c] }
            port := { s.port with stopOwed := true } })
      ∧ (s.stop.latch = false →
        s.causeJoins c =
          { s with
            stop :=
              { s.stop with
                causes := s.stop.causes.assign c true, latch := true
                first := some (.cause c), seen := [c] }
            admission :=
              { s.admission with
                queue := s.admission.queue.map fun p =>
                  { p with motion := p.motion.suspend s.now } }
            port := { s.port with stopOwed := true } }))
    ∧ (s.stop.causes.has c = true →
      s.causeLeaves c =
        { s with
          stop :=
            { s.stop with
              causes := s.stop.causes.assign c false
              conflictStation := if c = .claimConflict then none else s.stop.conflictStation }
          port := { s.port with stopOwed := true } }))
  ∧ (∀ (s : State) (c : Cause),
    let announced : Prop :=
      ∃ p ∈ s.admission.queue, p.state = .announcing ∨ p.state = .tentative
    (s.stop.causes.has c = true →
      s.addCause c = s ∧ s.dropCause c = (s.causeLeaves c).evalHead)
    ∧ (s.stop.causes.has c = false → s.dropCause c = s
      ∧ (announced → s.addCause c = (s.causeJoins c).yieldAnnounced.reevaluate)
      ∧ (¬announced → s.addCause c = (s.causeJoins c).evalHead)))
  ∧ (∀ (now : LocalTime) (timer : MotionTimer),
    timer.suspend now =
      match timer with
      | .running due => .held (if reached now due then 0 else (due - now).toNat)
      | .held ms => .held ms
      | .stopped => .stopped)

/-- A conversion of channels 0 to 2 goes into its ring, in place of the oldest code, and the scan moves on;
that of channel 3 also forms temperature and measures from the rings, begins the scan anew and has the
stability state evaluated while the station is on the site (R135, R136, R143). The WIND filter, of which a
command carries a run of samples (log 7): the first sample gives the level, samples that agree with it empty
the count, f + 1 that differ in a row change it, and only a change from low to high is counted. A window that
ends joins its speed min(999, 4 × count × factor / 100) to the gust history, which keeps the newest 12, and
the next ends 250 ms after this one's due time (R139 to R141). A mean is the sum of four valid codes divided
by 4, an incline its distance from 512, and the temperature, of four codes none 0 or 1023, half the mean less
200 (R27, R136, R138). -/
def Obligations.SensorSamplesAreGathered : Prop :=
  (∀ (s : State) (code : BitVec 10), s.inRestart = false →
    let pushed (r : Ring) : Ring := { a := r.b, b := r.c, c := r.d, d := some code.toNat }
    (s.monitor.scan = some 0 →
      exec (.conversionComplete code) s = .next
        { s with
          monitor := { s.monitor with ring0 := pushed s.monitor.ring0, scan := some 1 } })
    ∧ (s.monitor.scan = some 1 →
      exec (.conversionComplete code) s = .next
        { s with
          monitor := { s.monitor with ring1 := pushed s.monitor.ring1, scan := some 2 } })
    ∧ (s.monitor.scan = some 2 →
      exec (.conversionComplete code) s = .next
        { s with
          monitor := { s.monitor with ring2 := pushed s.monitor.ring2, scan := some 3 } })
    ∧ (s.monitor.scan = some 3 →
      let rounded : State :=
        { s with
          monitor :=
            { s.monitor with
              ring3 := pushed s.monitor.ring3, scan := some 0
              ambient := (pushed s.monitor.ring3).temperature
              inclineX := s.monitor.ring0.mean.map deviation
              inclineY := s.monitor.ring1.mean.map deviation
              strain := s.monitor.ring2.mean } }
      (s.site.state.onSite = true →
        exec (.conversionComplete code) s = .next rounded.evaluateStability)
      ∧ (s.site.state.onSite = false →
        exec (.conversionComplete code) s = .next rounded)))
  ∧ ((∀ (s : State) (n : Nat), s.linkActive = true → 1 ≤ n →
    let m := s.monitor
    let heard (level : Bool) (differ count : Nat) : State :=
      { s with
        monitor := { m with windLevel := some level, windDiffer := differ, windCount := count } }
    (m.windLevel = none →
      exec (.windRisingEdge n) s = .next (heard true 0 m.windCount)
      ∧ exec (.windFallingEdge n) s = .next (heard false 0 m.windCount))
    ∧ (m.windLevel = some true →
      exec (.windRisingEdge n) s = .next (heard true 0 m.windCount)
      ∧ (m.windDiffer + n < m.limits.windFilter + 1 →
        exec (.windFallingEdge n) s = .next (heard true (m.windDiffer + n) m.windCount))
      ∧ (m.limits.windFilter + 1 ≤ m.windDiffer + n →
        exec (.windFallingEdge n) s = .next (heard false 0 m.windCount)))
    ∧ (m.windLevel = some false →
      exec (.windFallingEdge n) s = .next (heard false 0 m.windCount)
      ∧ (m.windDiffer + n < m.limits.windFilter + 1 →
        exec (.windRisingEdge n) s = .next (heard false (m.windDiffer + n) m.windCount))
      ∧ (m.limits.windFilter + 1 ≤ m.windDiffer + n →
        exec (.windRisingEdge n) s = .next (heard true 0 (m.windCount + 1)))))
  ∧ (∀ (s : State) (due : LocalTime), s.linkActive = true → s.monitor.windowDue = some due →
    reached s.now due = true →
      let speed := min 999 (4 * s.monitor.windCount * s.monitor.limits.factor / 100)
      let ended (gusts : List Nat) : State :=
        { s with
          monitor :=
            { s.monitor with
              windCount := 0, windowDue := some (due + 250#32), gusts := gusts } }
      (s.monitor.gusts.length < 12 →
        exec .windWindowEnd s = .next (ended (s.monitor.gusts ++ [speed])))
      ∧ (∀ oldest gusts, s.monitor.gusts = oldest :: gusts → gusts.length = 11 →
        exec .windWindowEnd s = .next (ended (gusts ++ [speed])))))
  ∧ (∀ r : Ring,
    ((r.a = none ∨ r.b = none ∨ r.c = none ∨ r.d = none) → r.mean = none ∧ r.temperature = none)
    ∧ ∀ a b c d, r.a = some a → r.b = some b → r.c = some c → r.d = some d →
      r.mean = some ((a + b + c + d) / 4)
      ∧ ((∃ x ∈ [a, b, c, d], x = 0 ∨ x = 1023) → r.temperature = none)
      ∧ ((∀ x ∈ [a, b, c, d], x ≠ 0 ∧ x ≠ 1023) →
        r.temperature = some ((((a + b + c + d) / 4 / 2 : Nat) : Int) - 200)))
  ∧ (∀ mean : Nat, ((deviation mean : Nat) : Int) = |(mean : Int) - 512|)

/-! ### Restarts (file 10) -/

/-- A restart begins with TXEN released, the transmit queues, the transfer and the intake emptied, ARMSTOP
asserted and the latch set, and the motion limit timers held; a SET-CURE cut short in its conversion walk
keeps its values written; a second cause joins it; a part powered off keeps nothing (R37, R114, R154, R172,
R182, R183; logs 17 and 25). The end of a cold start: the values of State.reset, with the inputs taken afresh,
each present cause among the causes seen after STABILITY. The end of a warm restart: what each block keeps is
kept, the rest is emptied, the inputs are taken afresh, the blocks begin again if the site-set mark is set,
and the restart walk is made (R21, R37, R67, R82, R102, R134, R150, R160; the inputs are those of the command,
log 8). -/
def Obligations.RestartsBeginAndEnd : Prop :=
  (∀ s : State,
    (s.supply.hold = none →
      let begun (hold : RestartHold) (classes : List CureClass) : State :=
        { s with
          supply := { s.supply with hold := some hold }
          cure := { s.cure with classes := classes }
          stop :=
            if s.stop.latch then s.stop
            else { s.stop with latch := true, first := some .restart, seen := [] }
          port := { s.port with transfer := none, intake := none }
          tx := { s.tx with urgent := [], bulk := [], current := none }
          admission :=
            { s.admission with
              queue := s.admission.queue.map fun p =>
                { p with motion := p.motion.suspend s.now } } }
      let byReset : RestartHold := { resetLow := true, supplyCut := false, poweredOff := false }
      let byCut : RestartHold := { resetLow := false, supplyCut := true, poweredOff := false }
      ((∀ r, s.port.intake = some r → s.walksFor r = false) →
        exec (.restartBegin .resetPin) s = .next (begun byReset s.cure.classes)
        ∧ exec (.restartBegin .supplyCut) s = .next (begun byCut s.cure.classes))
      ∧ (∀ k datum threshold, s.port.intake = some (.setCure k datum threshold) →
        s.walksFor (.setCure k datum threshold) = true →
          let classes : List CureClass :=
            s.cure.classes.modify k.toNat fun c =>
              { c with datum := datum.toInt, threshold := threshold.toNat, configured := true }
          exec (.restartBegin .resetPin) s = .next (begun byReset classes)
          ∧ exec (.restartBegin .supplyCut) s = .next (begun byCut classes)))
    ∧ (∀ h, s.supply.hold = some h →
      exec (.restartBegin .resetPin) s = .next
          { s with supply := { s.supply with hold := some { h with resetLow := true } } }
        ∧ exec (.restartBegin .supplyCut) s = .next
          { s with supply := { s.supply with hold := some { h with supplyCut := true } } }
        ∧ exec .powerOff s = .next
          { State.reset with
            supply := { belowWarn := false, hold := some { h with poweredOff := true } }
            port := { State.reset.port with selected := s.port.selected }
            freeCount := s.freeCount
            pending := s.pending }))
  ∧ (∀ (s : State) (h : RestartHold) (i : RestartInputs), s.supply.hold = some h →
    h.poweredOff = true →
      exec (.restartEnd i) s = .next
        { State.reset with
          supply := { belowWarn := i.supplyBelowWarn, hold := none }
          monitor := { State.reset.monitor with reference := i.referencePresent }
          stop :=
            { causes :=
                { stability := true, claimConflict := false, claimLapse := false
                  stationClash := false, localStop := i.lstopLow
                  supplyLow := i.supplyBelowWarn }
              conflictStation := none, latch := true, first := some .restart
              seen :=
                [.stability] ++ (if i.lstopLow then [.localStop] else [])
                  ++ (if i.supplyBelowWarn then [.supplyLow] else [])
              lstopStop := i.lstopLow, lstopDiffer := 0, lstopFilter := 10 }
          port := { State.reset.port with selected := s.port.selected }
          freeCount := s.freeCount
          pending := s.pending })
  ∧ (∀ (s : State) (h : RestartHold) (i : RestartInputs), s.supply.hold = some h →
    h.poweredOff = false →
      let kept : State :=
        { State.reset with
          now := s.now
          site :=
            { State.reset.site with
              config := s.site.config, restartKind := .warm
              state := if s.site.config.isSome then .configured else .unconfigured }
          supply := { belowWarn := i.supplyBelowWarn, hold := none }
          walls := s.walls.map fun p => { p with answer := .idle, again := false, window := none }
          map := s.map
          cure := { classes := s.cure.classes, tickDue := none, held := false }
          admission := { s.admission with queue := [] }
          rx := { State.reset.rx with lagOn := s.rx.lagOn, lagOff := s.rx.lagOff }
          monitor :=
            { State.reset.monitor with
              limits := s.monitor.limits, reference := i.referencePresent }
          stop :=
            { causes :=
                { stability := true, claimConflict := false, claimLapse := false
                  stationClash := false, localStop := i.lstopLow
                  supplyLow := i.supplyBelowWarn }
              conflictStation := none, latch := true, first := some .restart
              seen :=
                [.stability] ++ (if i.lstopLow then [.localStop] else [])
                  ++ (if i.supplyBelowWarn then [.supplyLow] else [])
              lstopStop := i.lstopLow, lstopDiffer := 0, lstopFilter := s.stop.lstopFilter }
          port := { State.reset.port with selected := s.port.selected }
          freeCount := s.freeCount
          pending := s.pending }
      (s.site.config = none → exec (.restartEnd i) s = .next kept.sweep)
      ∧ (∀ c, s.site.config = some c →
        exec (.restartEnd i) s = .next
          ({ kept with
              rx := { kept.rx with phase := .gapWait, idleCount := 0 }
              cure := { kept.cure with tickDue := some (s.now + 1000#32) }
              monitor :=
                { kept.monitor with
                  windowDue := some (s.now + 250#32)
                  scan := if i.referencePresent then some 0 else none } } : State).sweep))

/-! ### Frames and codes (file 11) -/

/-- Decoding gives back what was encoded: every request that fits a frame, and every notice whose counts
fit its layout, with every operand at every value; and octets that decode are those of what they decode to
(R185, R187). -/
def Obligations.EncodedFramesDecode : Prop :=
  (∀ r : Instr, r.requestKind.isSome = true → r.wellFormed = true →
    ∃ octets, encodeRequest r = some octets ∧ decodeRequest octets = some r)
  ∧ (∀ n : Notice, n.wellFormed = true → decodeNotice n.kindCode n.body = some n)
  ∧ (∀ (octets : List Octet) (r : Instr), decodeRequest octets = some r →
    encodeRequest r = some octets)
  ∧ (∀ (kind : Octet) (body : List Octet) (n : Notice), decodeNotice kind body = some n →
    n.kindCode = kind ∧ n.body = body)

/-- The frames the part shifts out: the null frame, ANSWER, STOP, STABILITY, PLACEMENT and SITE, each with its
length octet, kind octet and body, every field in R188's order, a field that is absent or invalid as 0, and
every code as its table has it; the content of a READ-SLOT and of a READ-SITE answer (R65, R149, R159, R167,
R170, R188). -/
def Obligations.OutgoingFramesFollowTheirLayouts : Prop :=
  let octet (n : Nat) : Octet := BitVec.ofNat 8 n
  let word (n : Nat) : List Octet := [octet (n / 256), octet n]
  let bit (b : Bool) (n : Nat) : Nat := if b then 2 ^ n else 0
  nullFrame = [0]
  ∧ (∀ (kind : Octet) (code : AnswerCode) (lost : Bool),
    let frame (content : AnswerContent) : List Octet :=
      ({ kind := kind, code := code, lost := lost, content := content } : Answer).frame
    frame .plain = [4, 0x80, kind, code.code, octet (bit lost 0)]
    ∧ (∀ v : SlotView,
      let maturity : Nat := v.maturity.getD 0
      frame (.slot v) =
        [11, 0x80, kind, code.code, octet (bit lost 0), v.state.code
          , octet (maturity / 65536), octet (maturity / 256), octet maturity
          , octet (v.laidBy.getD 0)
          , octet (bit v.maturity.isSome 0 + bit v.own 1 + bit v.owed 2 + bit v.gap 3)
          , octet v.solidHeight])
    ∧ ∀ v : SiteView,
      frame (.site v) = [15, 0x80, kind, code.code, octet (bit lost 0)] ++ v.octets)
  ∧ (∀ s : State,
    let causes := s.stop.causes
    s.stopReport =
      [octet (6 + s.stop.seen.length), 0x81
        , octet
            (bit (s.inRestart || causes != .empty || s.stop.latch) 0 + bit s.stop.latch 1
              + bit s.stop.lstopStop 2)
        , octet
            (bit causes.stability 0 + bit causes.claimConflict 1 + bit causes.claimLapse 2
              + bit causes.stationClash 3 + bit causes.localStop 4 + bit causes.supplyLow 5)
        , octet (if causes.claimConflict then s.stop.conflictStation.getD 0 else 0)
        , (match s.stop.first with
            | none => 0
            | some (.cause c) => c.code
            | some .restart => 7)
        , octet s.stop.seen.length] ++ s.stop.seen.map Cause.code)
  ∧ (∀ s : State,
    let m := s.monitor
    s.stabilityReport =
      [15, 0x82, m.state.code
        , octet
            (bit m.reference 0 + bit m.dwellDue.isSome 1 + bit m.inclineX.isSome 2
              + bit m.inclineY.isSome 3 + bit m.strain.isSome 4 + bit m.gusts.getLast?.isSome 5
              + bit m.gusts.max?.isSome 6 + bit m.ambient.isSome 7)]
        ++ word (m.inclineX.getD 0) ++ word (m.inclineY.getD 0) ++ word (m.strain.getD 0)
        ++ word (m.gusts.getLast?.getD 0) ++ word (m.gusts.max?.getD 0)
        ++ word (BitVec.ofInt 16 (m.ambient.getD 0)).toNat)
  ∧ (∀ p : Placement,
    let body (missing : Bool) (slot : List Octet) : List Octet :=
      [11, 0x83, p.tag, p.state.code, reasonCode p.reason, octet p.yields
        , octet (p.blocking.getD 0), octet (bit p.overrun 0 + bit missing 1)] ++ slot
    (p.missing = none → p.report = body false [0, 0, 0, 0])
    ∧ ∀ slot, p.missing = some slot →
      p.report = body true ([octet slot.wall, octet slot.course] ++ word slot.pos))
  ∧ (∀ s : State, s.siteReport = [12, 0x84] ++ s.siteView.octets)
  ∧ (∀ v : SiteView,
    let body (present peer : Bool) (fault : List Octet) : List Octet :=
      [v.state.code, octet (v.station.getD 0)
        , octet
            (bit (v.restartKind == .warm) 0 + bit v.lag 1 + bit v.doubt 2 + bit v.held 3
              + bit present 4 + bit peer 5)]
        ++ word ((List.range v.gaps.length).map fun w => bit (v.gaps.getD w false) w).sum
        ++ fault ++ [sendFailCode v.lastFail]
    (v.fault = none → v.octets = body false false [0, 0, 0, 0, 0])
    ∧ ∀ f, v.fault = some f →
      v.octets =
        body true f.peer.isSome
          ([octet f.slot.wall, octet f.slot.course] ++ word f.slot.pos ++ [octet (f.peer.getD 0)]))
  ∧ [AnswerCode.ok, .badState, .badValue, .queueFull, .dupTag, .badSlot, .cellsMiss, .slotTaken,
        .noSuchTag, .tooLate, .notFirm, .armInCells, .causesActive].map AnswerCode.code
      = [0, 1, 2, 3, 4, 5, 6, 7, 8, 9, 10, 11, 12]
  ∧ [Cause.stability, .claimConflict, .claimLapse, .stationClash, .localStop, .supplyLow].map
        Cause.code
      = [1, 2, 3, 4, 5, 6]
  ∧ [PlacementState.queued, .waitSupport, .waitCells, .announcing, .tentative, .firm, .seated, .done,
        .withdrawn, .failed].map PlacementState.code
      = [0, 1, 2, 3, 4, 5, 6, 7, 8, 9]
  ∧ reasonCode none = 0
  ∧ [WaitReason.notOnline, .notCalm, .stopped, .viewLag, .viewDoubt, .mapFull, .cellsHeld, .linkFail,
        .linkBusy].map (fun r => reasonCode (some (.wait r)))
      = [1, 2, 3, 4, 5, 6, 7, 8, 9]
  ∧ [FailReason.slotTaken, .supportTimeout, .viewGap, .abandoned, .left].map
        (fun r => reasonCode (some (.fail r)))
      = [16, 17, 18, 19, 20]
  ∧ [none, some SendFail.claim, some .release, some .laid, some .answer, some .survey].map sendFailCode
      = [0, 1, 2, 3, 4, 5]
  ∧ [SlotState.vacant, .wet, .set, .retired].map SlotState.code = [0, 1, 2, 3]
  ∧ [Stability.calm, .paused, .halted].map Stability.code = [0, 1, 2]
  ∧ [SiteState.unconfigured, .configured, .listening, .online, .leaving].map SiteState.code
      = [0, 1, 2, 3, 4]

/-- The CRC: the register starts at 0xFFFF; each octet is combined by exclusive-or into its high eight
bits and eight shifts follow, each combining 0x1021 if the bit shifted out was 1; the nine octets 0x31 to
0x39 give 0x29B1. A frame the part builds carries it after its body, high octet first, over length, header
and body, and keeps it through every collision; a frame received is complete exactly when the two CRC
octets match it (R186). -/
def Obligations.CrcIsTheCheckOfTheFrame : Prop :=
  crc [] = 0xFFFF#16
  ∧ (∀ (l : List Octet) (o : Octet), crc (l ++ [o]) = crcShift^[8] (crc l ^^^ (o ++ 0#8)))
  ∧ (∀ r : BitVec 16,
    crcShift r = if r.getLsbD 15 then (r <<< 1) ^^^ 0x1021#16 else r <<< 1)
  ∧ crc [0x31, 0x32, 0x33, 0x34, 0x35, 0x36, 0x37, 0x38, 0x39] = 0x29B1#16
  ∧ (∀ (s : State) (source : FrameSource) (n : Notice),
    let payload := n.payload s.senderOctet
    (s.builtFrame source n).octets
      = 0x96 :: BitVec.ofNat 8 payload.length
          :: (payload ++ octets16 (crc (BitVec.ofNat 8 payload.length :: payload))))
  ∧ (∀ (s t : State) (f g : CurrentFrame), s.tx.current = some f → exec .collision s = .next t →
    t.tx.current = some g → g.octets = f.octets)
  ∧ (∀ (s t : State) (f : OpenFrame) (hi lo : Octet), s.linkActive = true →
    s.rx.phase = .check f (some hi) → exec (.octetReceived lo true) s = .next t →
      (t.rx.frames.length = s.rx.frames.length + 1 ↔ crc (f.length :: f.octets) = hi ++ lo))

/-- A frame crosses the link whole: a receiver in HUNT with room for it that hears the octets of a frame
of 3 to 80 octets stores exactly its header and body as the newest complete frame and waits for the next
gap; a station that sends the same frame meanwhile marks it as an echo and has sent it whole, one that sends
another collides and marks no echo (R94 to R97, R99, R106, R107, R186). Of two frames begun together, the
first bit in which they differ decides: the one that is dominant there keeps the line, the other does
not (R189). -/
def Obligations.FramesCrossTheLink : Prop :=
  (∀ (s : State) (payload : List Octet), s.linkActive = true → s.rx.phase = .hunt →
    3 ≤ payload.length → payload.length ≤ 80 → s.rx.fill + 4 + payload.length ≤ 2048 →
      let crossed (t : State) (echo : Bool) : Prop :=
        s.hears (frameOctets payload) = some t
          ∧ t.rx.frames
            = s.rx.frames
              ++ [{ echo := echo, arrival := s.now.setWidth 16, octets := payload }]
          ∧ t.rx.phase = .gapWait
      (s.txen = false → ∃ t, crossed t false)
      ∧ (∀ (f : CurrentFrame) (own : List Octet), s.tx.current = some f → f.phase = .sending →
        f.sent = 0 → f.octets = frameOctets own → 3 ≤ own.length → own.length ≤ 80 →
          (own = payload →
            ∃ t, crossed t true ∧ t.tx.current = some { f with sent := f.octets.length })
          ∧ (own ≠ payload → ∃ t, crossed t false ∧ t.txen = false)))
  ∧ (∀ a b : List Octet, 3 ≤ a.length → a.length ≤ 80 → 3 ≤ b.length → b.length ≤ 80 → a ≠ b →
    ∃ (same restA restB : List Bool) (bitA : Bool),
      frameLevels (frameOctets a) = same ++ bitA :: restA
      ∧ frameLevels (frameOctets b) = same ++ (!bitA) :: restB
      ∧ keepsLine (frameLevels (frameOctets a)) (frameLevels (frameOctets b)) = !bitA
      ∧ keepsLine (frameLevels (frameOctets b)) (frameLevels (frameOctets a)) = bitA)
  ∧ (∀ restA restB, keepsLine (octetLevels 4 true ++ restA) (octetLevels 9 true ++ restB) = true)

/-! ### Time and geometry -/

/-- A due time A is reached exactly when (now − A) mod 2^32 is below 2^31 (R1). -/
def Obligations.ReachedIsHalfTheRange : Prop :=
  ∀ now due : LocalTime,
    (reached now due = true ↔ ((now.toNat : Int) - due.toNat) % 2 ^ 32 < 2 ^ 31)

/-- The positions and spans of a course by bond and parity; a slot is in range when its course is 0..top
and its position is one of the course's; the slots of a course tile the wall without gap or overlap from 0
to L (R6). -/
def Obligations.SlotsTileTheWall : Prop :=
  ∀ (d : WallDef) (course : Nat), d.length % 2 = 0 → 4 ≤ d.length →
    (d.bond = .stack ∨ course % 2 = 0 →
      d.slotCount course = d.length / 2 ∧ ∀ p, d.span course p = (2 * p, 2 * p + 2))
    ∧ (d.bond = .running → course % 2 = 1 →
      d.slotCount course = d.length / 2 + 1 ∧ d.span course 0 = (0, 1)
        ∧ (∀ p, 1 ≤ p → p ≤ d.length / 2 - 1 → d.span course p = (2 * p - 1, 2 * p + 1))
        ∧ d.span course (d.length / 2) = (d.length - 1, d.length))
    ∧ (∀ p, d.inRange course p = true ↔ course ≤ d.top ∧ p < d.slotCount course)
    ∧ (∀ p, p < d.slotCount course → (d.span course p).2 ≤ d.length)
    ∧ ∀ x, x < d.length →
      ∃ p, p < d.slotCount course ∧ (d.span course p).1 ≤ x ∧ x < (d.span course p).2
        ∧ ∀ q, q < d.slotCount course → (d.span course q).1 ≤ x → x < (d.span course q).2 → q = p

/-- The support slots of a slot in course c ≥ 1 are the slots of course c − 1 whose spans overlap its
span, in ascending position; a slot of course 0 has none; the missing support slot is the first of them
that is neither SET nor RETIRED (R7). -/
def Obligations.SupportsAreTheOverlappingSlots : Prop :=
  (∀ (d : WallDef) (course pos : Nat), d.length % 2 = 0 → 4 ≤ d.length →
    pos < d.slotCount course →
      d.supports 0 pos = []
      ∧ (d.supports course pos).Pairwise (· < ·)
      ∧ (1 ≤ course → ∀ q,
        q ∈ d.supports course pos ↔
          q < d.slotCount (course - 1)
            ∧ (d.span (course - 1) q).1 < (d.span course pos).2
            ∧ (d.span course pos).1 < (d.span (course - 1) q).2))
  ∧ (∀ (s : State) (target : Slot) (d : WallDef), (s.wall target.wall).definition = some d →
    let supports : List Slot :=
      (d.supports target.course target.pos).map fun p =>
        { wall := target.wall, course := target.course - 1, pos := p }
    let ready (slot : Slot) : Prop := s.readSlot slot = .set ∨ s.readSlot slot = .retired
    (s.missingSupport target = none ↔ ∀ slot ∈ supports, ready slot)
    ∧ (∀ slot, s.missingSupport target = some slot ↔
      ∃ before after, supports = before ++ slot :: after ∧ ¬ready slot ∧ ∀ x ∈ before, ready x))

/-- Testing the extreme slots suffices: a wall passes the grid check exactly when the seat point of every
slot of every course 0..top lies inside the grid, and then every seat cell is a number in 0..16383 (R4,
R8). -/
def Obligations.GridCheckCoversEverySlot : Prop :=
  ∀ (d : WallDef) (c : SiteConfig), d.length % 2 = 0 → 4 ≤ d.length → 1 ≤ c.cellEdge →
    (d.gridCheck c.halfModule c.courseHeight c.cellEdge = true ↔
      ∀ course pos, d.inRange course pos = true →
        (d.seatPoint c.halfModule c.courseHeight course pos).inGrid c.cellEdge = true)
    ∧ (d.gridCheck c.halfModule c.courseHeight c.cellEdge = true →
      ∀ course pos, d.inRange course pos = true →
        0 ≤ (d.seatPoint c.halfModule c.courseHeight course pos).cell c.cellEdge
          ∧ (d.seatPoint c.halfModule c.courseHeight course pos).cell c.cellEdge ≤ 16383)

/-! ### What every command keeps -/

/-- Every command ends in a next state, which leaves the waiting commands as they were; and local time
stands still at every command but power-off and the end of a cold start (R184; logs 1, 17 and 18). -/
def Obligations.CommandsEndAndTakeNoTime : Prop :=
  ∀ (c : Instr) (s : State), ∃ t, exec c s = .next t ∧ t.pending = s.pending
    ∧ (t.now = s.now ∨ c = .powerOff ∨ ∃ i, c = .restartEnd i ∧ s.poweredOff = true)

/-- Each accumulator changes only at a cure tick, and then by 0..240 modulo 2^32; it is 0 at the end of a
cold start, and a warm restart leaves it unchanged. A part powered off keeps none (log 17) (R26). -/
def Obligations.AccumulatorsMoveOnlyAtTicks : Prop :=
  ∀ (c : Instr) (s t : State) (k : Nat), exec c s = .next t →
    (c = .cureTick →
      ∃ d, d ≤ 240 ∧ (t.cureClass k).accum = (s.cureClass k).accum + BitVec.ofNat 32 d)
    ∧ (∀ i, c = .restartEnd i → s.poweredOff = true → (t.cureClass k).accum = 0)
    ∧ (c ≠ .cureTick → c ≠ .powerOff → ¬((∃ i, c = .restartEnd i) ∧ s.poweredOff = true) →
      (t.cureClass k).accum = (s.cureClass k).accum)

/-- A defined wall stays defined and its solid height never decreases, except at power-off and the end of
a cold start (log 17); its definition changes only by SET-WALL, commanded or carried by a transfer (log 5),
while it holds no record and its solid height is 0 (R3, R5, R19). -/
def Obligations.SolidHeightNeverDecreases : Prop :=
  ∀ (c : Instr) (s t : State) (w : Nat) (d : WallDef), exec c s = .next t → c ≠ .powerOff →
    ¬((∃ i, c = .restartEnd i) ∧ s.poweredOff = true) → (s.wall w).definition = some d →
      (s.wall w).solidHeight ≤ (t.wall w).solidHeight
      ∧ ((t.wall w).definition = some d
        ∨ (∃ f, carries c (.setWall f) ∧ f.wall.toNat = w) ∧ (t.wall w).definition.isSome = true
          ∧ (s.wall w).solidHeight = 0 ∧ ∀ r ∈ s.map.records, r.slot.wall ≠ w)

/-- The site state changes only by the transitions of the table, a request commanded or carried by a
transfer (log 5), and a STOP that finds nothing urgent passing through LEAVING to CONFIGURED; each change
owes a site report and leaves the head evaluated (R173, R180; power-off stands for the cold start,
log 17). -/
def Obligations.SiteStateMovesByTheTable : Prop :=
  ∀ (c : Instr) (s t : State), exec c s = .next t → t.site.state ≠ s.site.state →
    t.port.siteOwed = true ∧ t.evalHead = t
    ∧ ((s.site.state = .unconfigured ∧ t.site.state = .configured
        ∧ ∃ f, carries c (.setSite f))
      ∨ (s.site.state = .configured ∧ t.site.state = .listening ∧ carries c .start)
      ∨ (s.site.state = .listening ∧ t.site.state = .online ∧ c = .listenTimerExpiry)
      ∨ (s.site.state.joined = true ∧ t.site.state = .leaving ∧ carries c .stop)
      ∨ (s.site.state.joined = true ∧ t.site.state = .configured ∧ carries c .stop)
      ∨ (s.site.state = .leaving ∧ t.site.state = .configured ∧ c = .leavingEnd)
      ∨ (t.site.state = .unconfigured ∧ s.inRestart = true
        ∧ (c = .powerOff ∨ ∃ i, c = .restartEnd i))
      ∨ (t.site.state = .configured ∧ s.inRestart = true ∧ ∃ i, c = .restartEnd i))

/-- An evaluation of the head of an already evaluated queue changes nothing; and a head announces exactly
when its target is OPEN, its wall has no gap flag, every support slot is ready and all nine gates hold
(R44 to R51), gate 9 as log 12 reads it: the urgent queue takes records and has a place beyond those of the
OWED announces. -/
def Obligations.HeadEvaluationSettles : Prop :=
  (∀ s : State, s.evalHead.evalHead = s.evalHead)
  ∧ (∀ (s : State) (p : Placement),
    s.judgeHead p = .announce ↔
      s.readSlot p.target = .vacant ∧ (s.wall p.target.wall).gap = false
        ∧ s.missingSupport p.target = none
        ∧ s.site.state = .online ∧ s.monitor.state = .calm ∧ s.stopClear = true
        ∧ s.rx.lag = false ∧ s.notice.doubtDue = none ∧ s.map.records.length < 1024
        ∧ (∀ e ∈ s.claims.peers, sharesCell p.cells e.cells = true →
          e.state = .tentative ∧ p.target.course * 32 + s.cfg.station ≤ e.precedence)
        ∧ p.holdoff = none ∧ s.urgentRoom = true)

/-- A placement becomes FIRM only by a FIRM decision, from TENTATIVE, on a CALM platform with ARMSTOP
released and view doubt off, with its target OPEN, every support slot SET or RETIRED, and no blocking peer
entry for its claim's cells (R56, R87); a NOTICE_TAKE takes a decision that is due first (log 16). -/
def Obligations.FirmOnlyByTheDecision : Prop :=
  ∀ (c : Instr) (s t : State), s.AnnouncedReady → exec c s = .next t →
    ∀ p ∈ t.admission.queue, p.state = .firm →
      (∃ q ∈ s.admission.queue, q.tag = p.tag ∧ q.target = p.target ∧ q.state = .firm)
      ∨ ((c = .settleExpiry ∨ c = .firmDecision ∨ c = .noticeTake)
        ∧ s.monitor.state = .calm ∧ s.stopClear = true ∧ s.notice.doubtDue = none
        ∧ (∃ q ∈ s.admission.queue,
          q.tag = p.tag ∧ q.target = p.target ∧ q.state = .tentative
            ∧ s.readSlot q.target = .vacant ∧ s.missingSupport q.target = none)
        ∧ ∃ own ∈ s.claims.own, own.tag = p.tag ∧ own.state = .tentative
          ∧ ∀ e ∈ s.claims.peers, sharesCell own.cells e.cells = true →
            e.state = .tentative ∧ own.precedence ≤ e.precedence)

/-! ### Invariants that every step keeps -/

/-- The latch is set whenever a cause is present; a released latch has an empty stop record; the causes
seen hold every present cause once; the conflict station goes with CLAIM_CONFLICT (R151, R154, R155). -/
def Obligations.StopRecordStaysSound : Prop :=
  ∀ s t : State, s.stop.Sound → step s = .next t → t.stop.Sound

/-- STABILITY is present exactly while the platform is HALTED, and it is held HALTED off the site (R143,
R148, R151). -/
def Obligations.StabilityStaysWithItsCause : Prop :=
  ∀ s t : State, s.StabilitySound → step s = .next t → t.StabilitySound

/-- CLAIM_CONFLICT stands exactly while an own FIRM or SEATED claim conflicts with a FIRM or SEATED peer
entry, naming the lowest such station; CLAIM_LAPSE exactly while an own claim has its lapsed mark set;
LOCAL_STOP with the filtered LSTOP level; and outside a restart SUPPLY_LOW with the warn comparison (R91,
R92, R151, R153, R182). -/
def Obligations.CausesStayTrue : Prop :=
  ∀ s t : State, s.Bounded → s.AdmissionSound → s.ClaimsServe → s.CausesTrue → step s = .next t →
    t.CausesTrue

/-- The course map stays in key order with one record a slot and none below a solid height (R11). -/
def Obligations.MapStaysInKeyOrder : Prop :=
  ∀ s t : State, s.MapSound → step s = .next t → t.MapSound

/-- Outside a restart no WET record is left at or above its class's threshold (R16, R17, R25, R31, R34). In a
restart one may be, where it cut a conversion walk short; the restart walk at its end takes it (R37). -/
def Obligations.NoRecordIsLeftRipe : Prop :=
  ∀ s t : State, s.MapSound → s.NoneRipe → step s = .next t → t.NoneRipe

/-- Every bounded list, the receive store and the peer table keep their bounds; the course map holds at most
1,024 records, 1,022 of them from peers, with one kept free for an announced or FIRM placement (R11, R39,
R43, R48, R71, R77, R96, R103, R141). -/
def Obligations.CapacitiesHold : Prop :=
  ∀ s t : State, s.MapSound → s.AdmissionSound → s.Bounded → step s = .next t → t.Bounded

/-- At most one placement is in ANNOUNCING, TENTATIVE or FIRM, and one announced stands so only while the
platform is CALM, ARMSTOP is released and view doubt is off (R43, R53, R157). -/
def Obligations.AdmissionStaysClosed : Prop :=
  ∀ s t : State, s.AdmissionSound → step s = .next t → t.AdmissionSound

/-- A placement in ANNOUNCING or TENTATIVE keeps its target OPEN and its supports ready, or is failed
(R55, R56). -/
def Obligations.AnnouncedStaysReady : Prop :=
  ∀ s t : State, s.MapSound → s.AdmissionSound → s.AnnouncedReady → step s = .next t →
    t.AnnouncedReady

/-- Live placements have distinct tags; every own claim that is not abandoned serves a placement whose
state its own follows, no two the same tag; a claim never sent has begun no settle, and only a FIRM or
SEATED one has its lapsed mark set (R39, R70, R74, R76, R92). -/
def Obligations.ClaimsKeepServing : Prop :=
  ∀ s t : State, s.Bounded → s.AdmissionSound → s.ClaimsServe → step s = .next t → t.ClaimsServe

/-- The state after reset meets every invariant. -/
def Obligations.ResetIsSafe : Prop := State.reset.Safe
end

