-- ==== Sys2Proof/Laws/State.lean ====
section
/-! SUPPORT. For each named update of the state, one lemma per field: the fields it leaves, and the
fields it writes. All hold by unfolding alone, so no proof need unfold a record update. -/

namespace Sys2Proof.Machine

variable (s : State)

/-! #### withQueue -/

@[simp] theorem State.withQueue_now (q : List Placement) : (s.withQueue q).now = s.now := rfl
@[simp] theorem State.withQueue_site (q : List Placement) : (s.withQueue q).site = s.site := rfl
@[simp] theorem State.withQueue_supply (q : List Placement) :
    (s.withQueue q).supply = s.supply := rfl
@[simp] theorem State.withQueue_walls (q : List Placement) : (s.withQueue q).walls = s.walls := rfl
@[simp] theorem State.withQueue_map (q : List Placement) : (s.withQueue q).map = s.map := rfl
@[simp] theorem State.withQueue_cure (q : List Placement) : (s.withQueue q).cure = s.cure := rfl
@[simp] theorem State.withQueue_admission (q : List Placement) :
    (s.withQueue q).admission = { s.admission with queue := q } := rfl
@[simp] theorem State.withQueue_claims (q : List Placement) :
    (s.withQueue q).claims = s.claims := rfl
@[simp] theorem State.withQueue_tx (q : List Placement) : (s.withQueue q).tx = s.tx := rfl
@[simp] theorem State.withQueue_rx (q : List Placement) : (s.withQueue q).rx = s.rx := rfl
@[simp] theorem State.withQueue_notice (q : List Placement) :
    (s.withQueue q).notice = s.notice := rfl
@[simp] theorem State.withQueue_monitor (q : List Placement) :
    (s.withQueue q).monitor = s.monitor := rfl
@[simp] theorem State.withQueue_stop (q : List Placement) : (s.withQueue q).stop = s.stop := rfl
@[simp] theorem State.withQueue_port (q : List Placement) : (s.withQueue q).port = s.port := rfl
@[simp] theorem State.withQueue_freeCount (q : List Placement) :
    (s.withQueue q).freeCount = s.freeCount := rfl
@[simp] theorem State.withQueue_pending (q : List Placement) :
    (s.withQueue q).pending = s.pending := rfl

/-! #### withOwn -/

@[simp] theorem State.withOwn_now (l : List OwnClaim) : (s.withOwn l).now = s.now := rfl
@[simp] theorem State.withOwn_site (l : List OwnClaim) : (s.withOwn l).site = s.site := rfl
@[simp] theorem State.withOwn_supply (l : List OwnClaim) : (s.withOwn l).supply = s.supply := rfl
@[simp] theorem State.withOwn_walls (l : List OwnClaim) : (s.withOwn l).walls = s.walls := rfl
@[simp] theorem State.withOwn_map (l : List OwnClaim) : (s.withOwn l).map = s.map := rfl
@[simp] theorem State.withOwn_cure (l : List OwnClaim) : (s.withOwn l).cure = s.cure := rfl
@[simp] theorem State.withOwn_admission (l : List OwnClaim) :
    (s.withOwn l).admission = s.admission := rfl
@[simp] theorem State.withOwn_claims (l : List OwnClaim) :
    (s.withOwn l).claims = { s.claims with own := l } := rfl
@[simp] theorem State.withOwn_tx (l : List OwnClaim) : (s.withOwn l).tx = s.tx := rfl
@[simp] theorem State.withOwn_rx (l : List OwnClaim) : (s.withOwn l).rx = s.rx := rfl
@[simp] theorem State.withOwn_notice (l : List OwnClaim) : (s.withOwn l).notice = s.notice := rfl
@[simp] theorem State.withOwn_monitor (l : List OwnClaim) : (s.withOwn l).monitor = s.monitor := rfl
@[simp] theorem State.withOwn_stop (l : List OwnClaim) : (s.withOwn l).stop = s.stop := rfl
@[simp] theorem State.withOwn_port (l : List OwnClaim) : (s.withOwn l).port = s.port := rfl
@[simp] theorem State.withOwn_freeCount (l : List OwnClaim) :
    (s.withOwn l).freeCount = s.freeCount := rfl
@[simp] theorem State.withOwn_pending (l : List OwnClaim) : (s.withOwn l).pending = s.pending := rfl

/-! #### withPeers -/

@[simp] theorem State.withPeers_now (l : List PeerEntry) : (s.withPeers l).now = s.now := rfl
@[simp] theorem State.withPeers_site (l : List PeerEntry) : (s.withPeers l).site = s.site := rfl
@[simp] theorem State.withPeers_supply (l : List PeerEntry) :
    (s.withPeers l).supply = s.supply := rfl
@[simp] theorem State.withPeers_walls (l : List PeerEntry) : (s.withPeers l).walls = s.walls := rfl
@[simp] theorem State.withPeers_map (l : List PeerEntry) : (s.withPeers l).map = s.map := rfl
@[simp] theorem State.withPeers_cure (l : List PeerEntry) : (s.withPeers l).cure = s.cure := rfl
@[simp] theorem State.withPeers_admission (l : List PeerEntry) :
    (s.withPeers l).admission = s.admission := rfl
@[simp] theorem State.withPeers_claims (l : List PeerEntry) :
    (s.withPeers l).claims = { s.claims with peers := l } := rfl
@[simp] theorem State.withPeers_tx (l : List PeerEntry) : (s.withPeers l).tx = s.tx := rfl
@[simp] theorem State.withPeers_rx (l : List PeerEntry) : (s.withPeers l).rx = s.rx := rfl
@[simp] theorem State.withPeers_notice (l : List PeerEntry) :
    (s.withPeers l).notice = s.notice := rfl
@[simp] theorem State.withPeers_monitor (l : List PeerEntry) :
    (s.withPeers l).monitor = s.monitor := rfl
@[simp] theorem State.withPeers_stop (l : List PeerEntry) : (s.withPeers l).stop = s.stop := rfl
@[simp] theorem State.withPeers_port (l : List PeerEntry) : (s.withPeers l).port = s.port := rfl
@[simp] theorem State.withPeers_freeCount (l : List PeerEntry) :
    (s.withPeers l).freeCount = s.freeCount := rfl
@[simp] theorem State.withPeers_pending (l : List PeerEntry) :
    (s.withPeers l).pending = s.pending := rfl

/-! #### withUrgent -/

@[simp] theorem State.withUrgent_now (l : List UrgentRecord) : (s.withUrgent l).now = s.now := rfl
@[simp] theorem State.withUrgent_site (l : List UrgentRecord) :
    (s.withUrgent l).site = s.site := rfl
@[simp] theorem State.withUrgent_supply (l : List UrgentRecord) :
    (s.withUrgent l).supply = s.supply := rfl
@[simp] theorem State.withUrgent_walls (l : List UrgentRecord) :
    (s.withUrgent l).walls = s.walls := rfl
@[simp] theorem State.withUrgent_map (l : List UrgentRecord) : (s.withUrgent l).map = s.map := rfl
@[simp] theorem State.withUrgent_cure (l : List UrgentRecord) :
    (s.withUrgent l).cure = s.cure := rfl
@[simp] theorem State.withUrgent_admission (l : List UrgentRecord) :
    (s.withUrgent l).admission = s.admission := rfl
@[simp] theorem State.withUrgent_claims (l : List UrgentRecord) :
    (s.withUrgent l).claims = s.claims := rfl
@[simp] theorem State.withUrgent_tx (l : List UrgentRecord) :
    (s.withUrgent l).tx = { s.tx with urgent := l } := rfl
@[simp] theorem State.withUrgent_rx (l : List UrgentRecord) : (s.withUrgent l).rx = s.rx := rfl
@[simp] theorem State.withUrgent_notice (l : List UrgentRecord) :
    (s.withUrgent l).notice = s.notice := rfl
@[simp] theorem State.withUrgent_monitor (l : List UrgentRecord) :
    (s.withUrgent l).monitor = s.monitor := rfl
@[simp] theorem State.withUrgent_stop (l : List UrgentRecord) :
    (s.withUrgent l).stop = s.stop := rfl
@[simp] theorem State.withUrgent_port (l : List UrgentRecord) :
    (s.withUrgent l).port = s.port := rfl
@[simp] theorem State.withUrgent_freeCount (l : List UrgentRecord) :
    (s.withUrgent l).freeCount = s.freeCount := rfl
@[simp] theorem State.withUrgent_pending (l : List UrgentRecord) :
    (s.withUrgent l).pending = s.pending := rfl

/-! #### withBulk -/

@[simp] theorem State.withBulk_now (l : List BulkRecord) : (s.withBulk l).now = s.now := rfl
@[simp] theorem State.withBulk_site (l : List BulkRecord) : (s.withBulk l).site = s.site := rfl
@[simp] theorem State.withBulk_supply (l : List BulkRecord) :
    (s.withBulk l).supply = s.supply := rfl
@[simp] theorem State.withBulk_walls (l : List BulkRecord) : (s.withBulk l).walls = s.walls := rfl
@[simp] theorem State.withBulk_map (l : List BulkRecord) : (s.withBulk l).map = s.map := rfl
@[simp] theorem State.withBulk_cure (l : List BulkRecord) : (s.withBulk l).cure = s.cure := rfl
@[simp] theorem State.withBulk_admission (l : List BulkRecord) :
    (s.withBulk l).admission = s.admission := rfl
@[simp] theorem State.withBulk_claims (l : List BulkRecord) :
    (s.withBulk l).claims = s.claims := rfl
@[simp] theorem State.withBulk_tx (l : List BulkRecord) :
    (s.withBulk l).tx = { s.tx with bulk := l } := rfl
@[simp] theorem State.withBulk_rx (l : List BulkRecord) : (s.withBulk l).rx = s.rx := rfl
@[simp] theorem State.withBulk_notice (l : List BulkRecord) :
    (s.withBulk l).notice = s.notice := rfl
@[simp] theorem State.withBulk_monitor (l : List BulkRecord) :
    (s.withBulk l).monitor = s.monitor := rfl
@[simp] theorem State.withBulk_stop (l : List BulkRecord) : (s.withBulk l).stop = s.stop := rfl
@[simp] theorem State.withBulk_port (l : List BulkRecord) : (s.withBulk l).port = s.port := rfl
@[simp] theorem State.withBulk_freeCount (l : List BulkRecord) :
    (s.withBulk l).freeCount = s.freeCount := rfl
@[simp] theorem State.withBulk_pending (l : List BulkRecord) :
    (s.withBulk l).pending = s.pending := rfl

/-! #### withCurrent -/

@[simp] theorem State.withCurrent_now (f : Option CurrentFrame) :
    (s.withCurrent f).now = s.now := rfl
@[simp] theorem State.withCurrent_site (f : Option CurrentFrame) :
    (s.withCurrent f).site = s.site := rfl
@[simp] theorem State.withCurrent_supply (f : Option CurrentFrame) :
    (s.withCurrent f).supply = s.supply := rfl
@[simp] theorem State.withCurrent_walls (f : Option CurrentFrame) :
    (s.withCurrent f).walls = s.walls := rfl
@[simp] theorem State.withCurrent_map (f : Option CurrentFrame) :
    (s.withCurrent f).map = s.map := rfl
@[simp] theorem State.withCurrent_cure (f : Option CurrentFrame) :
    (s.withCurrent f).cure = s.cure := rfl
@[simp] theorem State.withCurrent_admission (f : Option CurrentFrame) :
    (s.withCurrent f).admission = s.admission := rfl
@[simp] theorem State.withCurrent_claims (f : Option CurrentFrame) :
    (s.withCurrent f).claims = s.claims := rfl
@[simp] theorem State.withCurrent_tx (f : Option CurrentFrame) :
    (s.withCurrent f).tx = { s.tx with current := f } := rfl
@[simp] theorem State.withCurrent_rx (f : Option CurrentFrame) : (s.withCurrent f).rx = s.rx := rfl
@[simp] theorem State.withCurrent_notice (f : Option CurrentFrame) :
    (s.withCurrent f).notice = s.notice := rfl
@[simp] theorem State.withCurrent_monitor (f : Option CurrentFrame) :
    (s.withCurrent f).monitor = s.monitor := rfl
@[simp] theorem State.withCurrent_stop (f : Option CurrentFrame) :
    (s.withCurrent f).stop = s.stop := rfl
@[simp] theorem State.withCurrent_port (f : Option CurrentFrame) :
    (s.withCurrent f).port = s.port := rfl
@[simp] theorem State.withCurrent_freeCount (f : Option CurrentFrame) :
    (s.withCurrent f).freeCount = s.freeCount := rfl
@[simp] theorem State.withCurrent_pending (f : Option CurrentFrame) :
    (s.withCurrent f).pending = s.pending := rfl

/-! #### withRecords -/

@[simp] theorem State.withRecords_now (l : List SlotRecord) : (s.withRecords l).now = s.now := rfl
@[simp] theorem State.withRecords_site (l : List SlotRecord) :
    (s.withRecords l).site = s.site := rfl
@[simp] theorem State.withRecords_supply (l : List SlotRecord) :
    (s.withRecords l).supply = s.supply := rfl
@[simp] theorem State.withRecords_walls (l : List SlotRecord) :
    (s.withRecords l).walls = s.walls := rfl
@[simp] theorem State.withRecords_map (l : List SlotRecord) :
    (s.withRecords l).map = { s.map with records := l } := rfl
@[simp] theorem State.withRecords_cure (l : List SlotRecord) :
    (s.withRecords l).cure = s.cure := rfl
@[simp] theorem State.withRecords_admission (l : List SlotRecord) :
    (s.withRecords l).admission = s.admission := rfl
@[simp] theorem State.withRecords_claims (l : List SlotRecord) :
    (s.withRecords l).claims = s.claims := rfl
@[simp] theorem State.withRecords_tx (l : List SlotRecord) : (s.withRecords l).tx = s.tx := rfl
@[simp] theorem State.withRecords_rx (l : List SlotRecord) : (s.withRecords l).rx = s.rx := rfl
@[simp] theorem State.withRecords_notice (l : List SlotRecord) :
    (s.withRecords l).notice = s.notice := rfl
@[simp] theorem State.withRecords_monitor (l : List SlotRecord) :
    (s.withRecords l).monitor = s.monitor := rfl
@[simp] theorem State.withRecords_stop (l : List SlotRecord) :
    (s.withRecords l).stop = s.stop := rfl
@[simp] theorem State.withRecords_port (l : List SlotRecord) :
    (s.withRecords l).port = s.port := rfl
@[simp] theorem State.withRecords_freeCount (l : List SlotRecord) :
    (s.withRecords l).freeCount = s.freeCount := rfl
@[simp] theorem State.withRecords_pending (l : List SlotRecord) :
    (s.withRecords l).pending = s.pending := rfl

/-! #### putRecord -/

@[simp] theorem State.putRecord_now (r : SlotRecord) : (s.putRecord r).now = s.now := rfl
@[simp] theorem State.putRecord_site (r : SlotRecord) : (s.putRecord r).site = s.site := rfl
@[simp] theorem State.putRecord_supply (r : SlotRecord) : (s.putRecord r).supply = s.supply := rfl
@[simp] theorem State.putRecord_walls (r : SlotRecord) : (s.putRecord r).walls = s.walls := rfl
@[simp] theorem State.putRecord_map (r : SlotRecord) :
    (s.putRecord r).map = { s.map with records := insertRecord r s.map.records } := rfl
@[simp] theorem State.putRecord_cure (r : SlotRecord) : (s.putRecord r).cure = s.cure := rfl
@[simp] theorem State.putRecord_admission (r : SlotRecord) :
    (s.putRecord r).admission = s.admission := rfl
@[simp] theorem State.putRecord_claims (r : SlotRecord) : (s.putRecord r).claims = s.claims := rfl
@[simp] theorem State.putRecord_tx (r : SlotRecord) : (s.putRecord r).tx = s.tx := rfl
@[simp] theorem State.putRecord_rx (r : SlotRecord) : (s.putRecord r).rx = s.rx := rfl
@[simp] theorem State.putRecord_notice (r : SlotRecord) : (s.putRecord r).notice = s.notice := rfl
@[simp] theorem State.putRecord_monitor (r : SlotRecord) :
    (s.putRecord r).monitor = s.monitor := rfl
@[simp] theorem State.putRecord_stop (r : SlotRecord) : (s.putRecord r).stop = s.stop := rfl
@[simp] theorem State.putRecord_port (r : SlotRecord) : (s.putRecord r).port = s.port := rfl
@[simp] theorem State.putRecord_freeCount (r : SlotRecord) :
    (s.putRecord r).freeCount = s.freeCount := rfl
@[simp] theorem State.putRecord_pending (r : SlotRecord) :
    (s.putRecord r).pending = s.pending := rfl

/-! #### mapWall -/

@[simp] theorem State.mapWall_now (w : Nat) (f : WallPlace → WallPlace) :
    (s.mapWall w f).now = s.now := rfl
@[simp] theorem State.mapWall_site (w : Nat) (f : WallPlace → WallPlace) :
    (s.mapWall w f).site = s.site := rfl
@[simp] theorem State.mapWall_supply (w : Nat) (f : WallPlace → WallPlace) :
    (s.mapWall w f).supply = s.supply := rfl
@[simp] theorem State.mapWall_walls (w : Nat) (f : WallPlace → WallPlace) :
    (s.mapWall w f).walls = s.walls.modify w f := rfl
@[simp] theorem State.mapWall_map (w : Nat) (f : WallPlace → WallPlace) :
    (s.mapWall w f).map = s.map := rfl
@[simp] theorem State.mapWall_cure (w : Nat) (f : WallPlace → WallPlace) :
    (s.mapWall w f).cure = s.cure := rfl
@[simp] theorem State.mapWall_admission (w : Nat) (f : WallPlace → WallPlace) :
    (s.mapWall w f).admission = s.admission := rfl
@[simp] theorem State.mapWall_claims (w : Nat) (f : WallPlace → WallPlace) :
    (s.mapWall w f).claims = s.claims := rfl
@[simp] theorem State.mapWall_tx (w : Nat) (f : WallPlace → WallPlace) :
    (s.mapWall w f).tx = s.tx := rfl
@[simp] theorem State.mapWall_rx (w : Nat) (f : WallPlace → WallPlace) :
    (s.mapWall w f).rx = s.rx := rfl
@[simp] theorem State.mapWall_notice (w : Nat) (f : WallPlace → WallPlace) :
    (s.mapWall w f).notice = s.notice := rfl
@[simp] theorem State.mapWall_monitor (w : Nat) (f : WallPlace → WallPlace) :
    (s.mapWall w f).monitor = s.monitor := rfl
@[simp] theorem State.mapWall_stop (w : Nat) (f : WallPlace → WallPlace) :
    (s.mapWall w f).stop = s.stop := rfl
@[simp] theorem State.mapWall_port (w : Nat) (f : WallPlace → WallPlace) :
    (s.mapWall w f).port = s.port := rfl
@[simp] theorem State.mapWall_freeCount (w : Nat) (f : WallPlace → WallPlace) :
    (s.mapWall w f).freeCount = s.freeCount := rfl
@[simp] theorem State.mapWall_pending (w : Nat) (f : WallPlace → WallPlace) :
    (s.mapWall w f).pending = s.pending := rfl

/-! #### setAnswer -/

@[simp] theorem State.setAnswer_now (w : Nat) (a : AnswerState) :
    (s.setAnswer w a).now = s.now := rfl
@[simp] theorem State.setAnswer_site (w : Nat) (a : AnswerState) :
    (s.setAnswer w a).site = s.site := rfl
@[simp] theorem State.setAnswer_supply (w : Nat) (a : AnswerState) :
    (s.setAnswer w a).supply = s.supply := rfl
@[simp] theorem State.setAnswer_walls (w : Nat) (a : AnswerState) :
    (s.setAnswer w a).walls = s.walls.modify w fun p => { p with answer := a } := rfl
@[simp] theorem State.setAnswer_map (w : Nat) (a : AnswerState) :
    (s.setAnswer w a).map = s.map := rfl
@[simp] theorem State.setAnswer_cure (w : Nat) (a : AnswerState) :
    (s.setAnswer w a).cure = s.cure := rfl
@[simp] theorem State.setAnswer_admission (w : Nat) (a : AnswerState) :
    (s.setAnswer w a).admission = s.admission := rfl
@[simp] theorem State.setAnswer_claims (w : Nat) (a : AnswerState) :
    (s.setAnswer w a).claims = s.claims := rfl
@[simp] theorem State.setAnswer_tx (w : Nat) (a : AnswerState) : (s.setAnswer w a).tx = s.tx := rfl
@[simp] theorem State.setAnswer_rx (w : Nat) (a : AnswerState) : (s.setAnswer w a).rx = s.rx := rfl
@[simp] theorem State.setAnswer_notice (w : Nat) (a : AnswerState) :
    (s.setAnswer w a).notice = s.notice := rfl
@[simp] theorem State.setAnswer_monitor (w : Nat) (a : AnswerState) :
    (s.setAnswer w a).monitor = s.monitor := rfl
@[simp] theorem State.setAnswer_stop (w : Nat) (a : AnswerState) :
    (s.setAnswer w a).stop = s.stop := rfl
@[simp] theorem State.setAnswer_port (w : Nat) (a : AnswerState) :
    (s.setAnswer w a).port = s.port := rfl
@[simp] theorem State.setAnswer_freeCount (w : Nat) (a : AnswerState) :
    (s.setAnswer w a).freeCount = s.freeCount := rfl
@[simp] theorem State.setAnswer_pending (w : Nat) (a : AnswerState) :
    (s.setAnswer w a).pending = s.pending := rfl

/-! #### withRx -/

@[simp] theorem State.withRx_now (r : Receiver) : (s.withRx r).now = s.now := rfl
@[simp] theorem State.withRx_site (r : Receiver) : (s.withRx r).site = s.site := rfl
@[simp] theorem State.withRx_supply (r : Receiver) : (s.withRx r).supply = s.supply := rfl
@[simp] theorem State.withRx_walls (r : Receiver) : (s.withRx r).walls = s.walls := rfl
@[simp] theorem State.withRx_map (r : Receiver) : (s.withRx r).map = s.map := rfl
@[simp] theorem State.withRx_cure (r : Receiver) : (s.withRx r).cure = s.cure := rfl
@[simp] theorem State.withRx_admission (r : Receiver) : (s.withRx r).admission = s.admission := rfl
@[simp] theorem State.withRx_claims (r : Receiver) : (s.withRx r).claims = s.claims := rfl
@[simp] theorem State.withRx_tx (r : Receiver) : (s.withRx r).tx = s.tx := rfl
@[simp] theorem State.withRx_rx (r : Receiver) : (s.withRx r).rx = r := rfl
@[simp] theorem State.withRx_notice (r : Receiver) : (s.withRx r).notice = s.notice := rfl
@[simp] theorem State.withRx_monitor (r : Receiver) : (s.withRx r).monitor = s.monitor := rfl
@[simp] theorem State.withRx_stop (r : Receiver) : (s.withRx r).stop = s.stop := rfl
@[simp] theorem State.withRx_port (r : Receiver) : (s.withRx r).port = s.port := rfl
@[simp] theorem State.withRx_freeCount (r : Receiver) : (s.withRx r).freeCount = s.freeCount := rfl
@[simp] theorem State.withRx_pending (r : Receiver) : (s.withRx r).pending = s.pending := rfl

/-! #### withPhase -/

@[simp] theorem State.withPhase_now (p : RxPhase) : (s.withPhase p).now = s.now := rfl
@[simp] theorem State.withPhase_site (p : RxPhase) : (s.withPhase p).site = s.site := rfl
@[simp] theorem State.withPhase_supply (p : RxPhase) : (s.withPhase p).supply = s.supply := rfl
@[simp] theorem State.withPhase_walls (p : RxPhase) : (s.withPhase p).walls = s.walls := rfl
@[simp] theorem State.withPhase_map (p : RxPhase) : (s.withPhase p).map = s.map := rfl
@[simp] theorem State.withPhase_cure (p : RxPhase) : (s.withPhase p).cure = s.cure := rfl
@[simp] theorem State.withPhase_admission (p : RxPhase) :
    (s.withPhase p).admission = s.admission := rfl
@[simp] theorem State.withPhase_claims (p : RxPhase) : (s.withPhase p).claims = s.claims := rfl
@[simp] theorem State.withPhase_tx (p : RxPhase) : (s.withPhase p).tx = s.tx := rfl
@[simp] theorem State.withPhase_rx (p : RxPhase) :
    (s.withPhase p).rx = { s.rx with phase := p } := rfl
@[simp] theorem State.withPhase_notice (p : RxPhase) : (s.withPhase p).notice = s.notice := rfl
@[simp] theorem State.withPhase_monitor (p : RxPhase) : (s.withPhase p).monitor = s.monitor := rfl
@[simp] theorem State.withPhase_stop (p : RxPhase) : (s.withPhase p).stop = s.stop := rfl
@[simp] theorem State.withPhase_port (p : RxPhase) : (s.withPhase p).port = s.port := rfl
@[simp] theorem State.withPhase_freeCount (p : RxPhase) :
    (s.withPhase p).freeCount = s.freeCount := rfl
@[simp] theorem State.withPhase_pending (p : RxPhase) : (s.withPhase p).pending = s.pending := rfl

/-! #### withIdle -/

@[simp] theorem State.withIdle_now (n : Nat) : (s.withIdle n).now = s.now := rfl
@[simp] theorem State.withIdle_site (n : Nat) : (s.withIdle n).site = s.site := rfl
@[simp] theorem State.withIdle_supply (n : Nat) : (s.withIdle n).supply = s.supply := rfl
@[simp] theorem State.withIdle_walls (n : Nat) : (s.withIdle n).walls = s.walls := rfl
@[simp] theorem State.withIdle_map (n : Nat) : (s.withIdle n).map = s.map := rfl
@[simp] theorem State.withIdle_cure (n : Nat) : (s.withIdle n).cure = s.cure := rfl
@[simp] theorem State.withIdle_admission (n : Nat) : (s.withIdle n).admission = s.admission := rfl
@[simp] theorem State.withIdle_claims (n : Nat) : (s.withIdle n).claims = s.claims := rfl
@[simp] theorem State.withIdle_tx (n : Nat) : (s.withIdle n).tx = s.tx := rfl
@[simp] theorem State.withIdle_rx (n : Nat) :
    (s.withIdle n).rx = { s.rx with idleCount := n } := rfl
@[simp] theorem State.withIdle_notice (n : Nat) : (s.withIdle n).notice = s.notice := rfl
@[simp] theorem State.withIdle_monitor (n : Nat) : (s.withIdle n).monitor = s.monitor := rfl
@[simp] theorem State.withIdle_stop (n : Nat) : (s.withIdle n).stop = s.stop := rfl
@[simp] theorem State.withIdle_port (n : Nat) : (s.withIdle n).port = s.port := rfl
@[simp] theorem State.withIdle_freeCount (n : Nat) : (s.withIdle n).freeCount = s.freeCount := rfl
@[simp] theorem State.withIdle_pending (n : Nat) : (s.withIdle n).pending = s.pending := rfl

/-! #### withDwell -/

@[simp] theorem State.withDwell_now (d : Option LocalTime) : (s.withDwell d).now = s.now := rfl
@[simp] theorem State.withDwell_site (d : Option LocalTime) : (s.withDwell d).site = s.site := rfl
@[simp] theorem State.withDwell_supply (d : Option LocalTime) :
    (s.withDwell d).supply = s.supply := rfl
@[simp] theorem State.withDwell_walls (d : Option LocalTime) :
    (s.withDwell d).walls = s.walls := rfl
@[simp] theorem State.withDwell_map (d : Option LocalTime) : (s.withDwell d).map = s.map := rfl
@[simp] theorem State.withDwell_cure (d : Option LocalTime) : (s.withDwell d).cure = s.cure := rfl
@[simp] theorem State.withDwell_admission (d : Option LocalTime) :
    (s.withDwell d).admission = s.admission := rfl
@[simp] theorem State.withDwell_claims (d : Option LocalTime) :
    (s.withDwell d).claims = s.claims := rfl
@[simp] theorem State.withDwell_tx (d : Option LocalTime) : (s.withDwell d).tx = s.tx := rfl
@[simp] theorem State.withDwell_rx (d : Option LocalTime) : (s.withDwell d).rx = s.rx := rfl
@[simp] theorem State.withDwell_notice (d : Option LocalTime) :
    (s.withDwell d).notice = s.notice := rfl
@[simp] theorem State.withDwell_monitor (d : Option LocalTime) :
    (s.withDwell d).monitor = { s.monitor with dwellDue := d } := rfl
@[simp] theorem State.withDwell_stop (d : Option LocalTime) : (s.withDwell d).stop = s.stop := rfl
@[simp] theorem State.withDwell_port (d : Option LocalTime) : (s.withDwell d).port = s.port := rfl
@[simp] theorem State.withDwell_freeCount (d : Option LocalTime) :
    (s.withDwell d).freeCount = s.freeCount := rfl
@[simp] theorem State.withDwell_pending (d : Option LocalTime) :
    (s.withDwell d).pending = s.pending := rfl

/-! #### withConfig -/

@[simp] theorem State.withConfig_now (c : SiteConfig) : (s.withConfig c).now = s.now := rfl
@[simp] theorem State.withConfig_site (c : SiteConfig) :
    (s.withConfig c).site = { s.site with config := some c } := rfl
@[simp] theorem State.withConfig_supply (c : SiteConfig) : (s.withConfig c).supply = s.supply := rfl
@[simp] theorem State.withConfig_walls (c : SiteConfig) : (s.withConfig c).walls = s.walls := rfl
@[simp] theorem State.withConfig_map (c : SiteConfig) : (s.withConfig c).map = s.map := rfl
@[simp] theorem State.withConfig_cure (c : SiteConfig) : (s.withConfig c).cure = s.cure := rfl
@[simp] theorem State.withConfig_admission (c : SiteConfig) :
    (s.withConfig c).admission = s.admission := rfl
@[simp] theorem State.withConfig_claims (c : SiteConfig) : (s.withConfig c).claims = s.claims := rfl
@[simp] theorem State.withConfig_tx (c : SiteConfig) : (s.withConfig c).tx = s.tx := rfl
@[simp] theorem State.withConfig_rx (c : SiteConfig) : (s.withConfig c).rx = s.rx := rfl
@[simp] theorem State.withConfig_notice (c : SiteConfig) : (s.withConfig c).notice = s.notice := rfl
@[simp] theorem State.withConfig_monitor (c : SiteConfig) :
    (s.withConfig c).monitor = s.monitor := rfl
@[simp] theorem State.withConfig_stop (c : SiteConfig) : (s.withConfig c).stop = s.stop := rfl
@[simp] theorem State.withConfig_port (c : SiteConfig) : (s.withConfig c).port = s.port := rfl
@[simp] theorem State.withConfig_freeCount (c : SiteConfig) :
    (s.withConfig c).freeCount = s.freeCount := rfl
@[simp] theorem State.withConfig_pending (c : SiteConfig) :
    (s.withConfig c).pending = s.pending := rfl

/-! #### enterSite -/

@[simp] theorem State.enterSite_now (x : SiteState) : (s.enterSite x).now = s.now := rfl
@[simp] theorem State.enterSite_site (x : SiteState) :
    (s.enterSite x).site = { s.site with state := x } := rfl
@[simp] theorem State.enterSite_supply (x : SiteState) : (s.enterSite x).supply = s.supply := rfl
@[simp] theorem State.enterSite_walls (x : SiteState) : (s.enterSite x).walls = s.walls := rfl
@[simp] theorem State.enterSite_map (x : SiteState) : (s.enterSite x).map = s.map := rfl
@[simp] theorem State.enterSite_cure (x : SiteState) : (s.enterSite x).cure = s.cure := rfl
@[simp] theorem State.enterSite_admission (x : SiteState) :
    (s.enterSite x).admission = s.admission := rfl
@[simp] theorem State.enterSite_claims (x : SiteState) : (s.enterSite x).claims = s.claims := rfl
@[simp] theorem State.enterSite_tx (x : SiteState) : (s.enterSite x).tx = s.tx := rfl
@[simp] theorem State.enterSite_rx (x : SiteState) : (s.enterSite x).rx = s.rx := rfl
@[simp] theorem State.enterSite_notice (x : SiteState) : (s.enterSite x).notice = s.notice := rfl
@[simp] theorem State.enterSite_monitor (x : SiteState) : (s.enterSite x).monitor = s.monitor := rfl
@[simp] theorem State.enterSite_stop (x : SiteState) : (s.enterSite x).stop = s.stop := rfl
@[simp] theorem State.enterSite_port (x : SiteState) :
    (s.enterSite x).port = { s.port with siteOwed := true } := rfl
@[simp] theorem State.enterSite_freeCount (x : SiteState) :
    (s.enterSite x).freeCount = s.freeCount := rfl
@[simp] theorem State.enterSite_pending (x : SiteState) : (s.enterSite x).pending = s.pending := rfl

/-! #### oweStop -/

@[simp] theorem State.oweStop_now : (s.oweStop).now = s.now := rfl
@[simp] theorem State.oweStop_site : (s.oweStop).site = s.site := rfl
@[simp] theorem State.oweStop_supply : (s.oweStop).supply = s.supply := rfl
@[simp] theorem State.oweStop_walls : (s.oweStop).walls = s.walls := rfl
@[simp] theorem State.oweStop_map : (s.oweStop).map = s.map := rfl
@[simp] theorem State.oweStop_cure : (s.oweStop).cure = s.cure := rfl
@[simp] theorem State.oweStop_admission : (s.oweStop).admission = s.admission := rfl
@[simp] theorem State.oweStop_claims : (s.oweStop).claims = s.claims := rfl
@[simp] theorem State.oweStop_tx : (s.oweStop).tx = s.tx := rfl
@[simp] theorem State.oweStop_rx : (s.oweStop).rx = s.rx := rfl
@[simp] theorem State.oweStop_notice : (s.oweStop).notice = s.notice := rfl
@[simp] theorem State.oweStop_monitor : (s.oweStop).monitor = s.monitor := rfl
@[simp] theorem State.oweStop_stop : (s.oweStop).stop = s.stop := rfl
@[simp] theorem State.oweStop_port : (s.oweStop).port = { s.port with stopOwed := true } := rfl
@[simp] theorem State.oweStop_freeCount : (s.oweStop).freeCount = s.freeCount := rfl
@[simp] theorem State.oweStop_pending : (s.oweStop).pending = s.pending := rfl

/-! #### oweStability -/

@[simp] theorem State.oweStability_now : (s.oweStability).now = s.now := rfl
@[simp] theorem State.oweStability_site : (s.oweStability).site = s.site := rfl
@[simp] theorem State.oweStability_supply : (s.oweStability).supply = s.supply := rfl
@[simp] theorem State.oweStability_walls : (s.oweStability).walls = s.walls := rfl
@[simp] theorem State.oweStability_map : (s.oweStability).map = s.map := rfl
@[simp] theorem State.oweStability_cure : (s.oweStability).cure = s.cure := rfl
@[simp] theorem State.oweStability_admission : (s.oweStability).admission = s.admission := rfl
@[simp] theorem State.oweStability_claims : (s.oweStability).claims = s.claims := rfl
@[simp] theorem State.oweStability_tx : (s.oweStability).tx = s.tx := rfl
@[simp] theorem State.oweStability_rx : (s.oweStability).rx = s.rx := rfl
@[simp] theorem State.oweStability_notice : (s.oweStability).notice = s.notice := rfl
@[simp] theorem State.oweStability_monitor : (s.oweStability).monitor = s.monitor := rfl
@[simp] theorem State.oweStability_stop : (s.oweStability).stop = s.stop := rfl
@[simp] theorem State.oweStability_port :
    (s.oweStability).port = { s.port with stabilityOwed := true } := rfl
@[simp] theorem State.oweStability_freeCount : (s.oweStability).freeCount = s.freeCount := rfl
@[simp] theorem State.oweStability_pending : (s.oweStability).pending = s.pending := rfl

/-! #### oweSite -/

@[simp] theorem State.oweSite_now : (s.oweSite).now = s.now := rfl
@[simp] theorem State.oweSite_site : (s.oweSite).site = s.site := rfl
@[simp] theorem State.oweSite_supply : (s.oweSite).supply = s.supply := rfl
@[simp] theorem State.oweSite_walls : (s.oweSite).walls = s.walls := rfl
@[simp] theorem State.oweSite_map : (s.oweSite).map = s.map := rfl
@[simp] theorem State.oweSite_cure : (s.oweSite).cure = s.cure := rfl
@[simp] theorem State.oweSite_admission : (s.oweSite).admission = s.admission := rfl
@[simp] theorem State.oweSite_claims : (s.oweSite).claims = s.claims := rfl
@[simp] theorem State.oweSite_tx : (s.oweSite).tx = s.tx := rfl
@[simp] theorem State.oweSite_rx : (s.oweSite).rx = s.rx := rfl
@[simp] theorem State.oweSite_notice : (s.oweSite).notice = s.notice := rfl
@[simp] theorem State.oweSite_monitor : (s.oweSite).monitor = s.monitor := rfl
@[simp] theorem State.oweSite_stop : (s.oweSite).stop = s.stop := rfl
@[simp] theorem State.oweSite_port : (s.oweSite).port = { s.port with siteOwed := true } := rfl
@[simp] theorem State.oweSite_freeCount : (s.oweSite).freeCount = s.freeCount := rfl
@[simp] theorem State.oweSite_pending : (s.oweSite).pending = s.pending := rfl

/-! #### oweSiteIf -/

@[simp] theorem State.oweSiteIf_now (c : Bool) : (s.oweSiteIf c).now = s.now := rfl
@[simp] theorem State.oweSiteIf_site (c : Bool) : (s.oweSiteIf c).site = s.site := rfl
@[simp] theorem State.oweSiteIf_supply (c : Bool) : (s.oweSiteIf c).supply = s.supply := rfl
@[simp] theorem State.oweSiteIf_walls (c : Bool) : (s.oweSiteIf c).walls = s.walls := rfl
@[simp] theorem State.oweSiteIf_map (c : Bool) : (s.oweSiteIf c).map = s.map := rfl
@[simp] theorem State.oweSiteIf_cure (c : Bool) : (s.oweSiteIf c).cure = s.cure := rfl
@[simp] theorem State.oweSiteIf_admission (c : Bool) :
    (s.oweSiteIf c).admission = s.admission := rfl
@[simp] theorem State.oweSiteIf_claims (c : Bool) : (s.oweSiteIf c).claims = s.claims := rfl
@[simp] theorem State.oweSiteIf_tx (c : Bool) : (s.oweSiteIf c).tx = s.tx := rfl
@[simp] theorem State.oweSiteIf_rx (c : Bool) : (s.oweSiteIf c).rx = s.rx := rfl
@[simp] theorem State.oweSiteIf_notice (c : Bool) : (s.oweSiteIf c).notice = s.notice := rfl
@[simp] theorem State.oweSiteIf_monitor (c : Bool) : (s.oweSiteIf c).monitor = s.monitor := rfl
@[simp] theorem State.oweSiteIf_stop (c : Bool) : (s.oweSiteIf c).stop = s.stop := rfl
@[simp] theorem State.oweSiteIf_port (c : Bool) :
    (s.oweSiteIf c).port = { s.port with siteOwed := s.port.siteOwed || c } := rfl
@[simp] theorem State.oweSiteIf_freeCount (c : Bool) :
    (s.oweSiteIf c).freeCount = s.freeCount := rfl
@[simp] theorem State.oweSiteIf_pending (c : Bool) : (s.oweSiteIf c).pending = s.pending := rfl

/-! #### withTransfer -/

@[simp] theorem State.withTransfer_now (x : Bool) (t : Option Transfer) :
    (s.withTransfer x t).now = s.now := rfl
@[simp] theorem State.withTransfer_site (x : Bool) (t : Option Transfer) :
    (s.withTransfer x t).site = s.site := rfl
@[simp] theorem State.withTransfer_supply (x : Bool) (t : Option Transfer) :
    (s.withTransfer x t).supply = s.supply := rfl
@[simp] theorem State.withTransfer_walls (x : Bool) (t : Option Transfer) :
    (s.withTransfer x t).walls = s.walls := rfl
@[simp] theorem State.withTransfer_map (x : Bool) (t : Option Transfer) :
    (s.withTransfer x t).map = s.map := rfl
@[simp] theorem State.withTransfer_cure (x : Bool) (t : Option Transfer) :
    (s.withTransfer x t).cure = s.cure := rfl
@[simp] theorem State.withTransfer_admission (x : Bool) (t : Option Transfer) :
    (s.withTransfer x t).admission = s.admission := rfl
@[simp] theorem State.withTransfer_claims (x : Bool) (t : Option Transfer) :
    (s.withTransfer x t).claims = s.claims := rfl
@[simp] theorem State.withTransfer_tx (x : Bool) (t : Option Transfer) :
    (s.withTransfer x t).tx = s.tx := rfl
@[simp] theorem State.withTransfer_rx (x : Bool) (t : Option Transfer) :
    (s.withTransfer x t).rx = s.rx := rfl
@[simp] theorem State.withTransfer_notice (x : Bool) (t : Option Transfer) :
    (s.withTransfer x t).notice = s.notice := rfl
@[simp] theorem State.withTransfer_monitor (x : Bool) (t : Option Transfer) :
    (s.withTransfer x t).monitor = s.monitor := rfl
@[simp] theorem State.withTransfer_stop (x : Bool) (t : Option Transfer) :
    (s.withTransfer x t).stop = s.stop := rfl
@[simp] theorem State.withTransfer_port (x : Bool) (t : Option Transfer) :
    (s.withTransfer x t).port = { s.port with selected := x, transfer := t } := rfl
@[simp] theorem State.withTransfer_freeCount (x : Bool) (t : Option Transfer) :
    (s.withTransfer x t).freeCount = s.freeCount := rfl
@[simp] theorem State.withTransfer_pending (x : Bool) (t : Option Transfer) :
    (s.withTransfer x t).pending = s.pending := rfl

/-! #### taken -/

@[simp] theorem State.taken_now (r : Instr) : (s.taken r).now = s.now := rfl
@[simp] theorem State.taken_site (r : Instr) : (s.taken r).site = s.site := rfl
@[simp] theorem State.taken_supply (r : Instr) : (s.taken r).supply = s.supply := rfl
@[simp] theorem State.taken_walls (r : Instr) : (s.taken r).walls = s.walls := rfl
@[simp] theorem State.taken_map (r : Instr) : (s.taken r).map = s.map := rfl
@[simp] theorem State.taken_cure (r : Instr) : (s.taken r).cure = s.cure := rfl
@[simp] theorem State.taken_admission (r : Instr) : (s.taken r).admission = s.admission := rfl
@[simp] theorem State.taken_claims (r : Instr) : (s.taken r).claims = s.claims := rfl
@[simp] theorem State.taken_tx (r : Instr) : (s.taken r).tx = s.tx := rfl
@[simp] theorem State.taken_rx (r : Instr) : (s.taken r).rx = s.rx := rfl
@[simp] theorem State.taken_notice (r : Instr) : (s.taken r).notice = s.notice := rfl
@[simp] theorem State.taken_monitor (r : Instr) : (s.taken r).monitor = s.monitor := rfl
@[simp] theorem State.taken_stop (r : Instr) : (s.taken r).stop = s.stop := rfl
@[simp] theorem State.taken_port (r : Instr) :
    (s.taken r).port = { s.port with intake := some r } := rfl
@[simp] theorem State.taken_freeCount (r : Instr) : (s.taken r).freeCount = s.freeCount := rfl
@[simp] theorem State.taken_pending (r : Instr) : (s.taken r).pending = s.pending := rfl

/-! #### loseRequest -/

@[simp] theorem State.loseRequest_now : (s.loseRequest).now = s.now := rfl
@[simp] theorem State.loseRequest_site : (s.loseRequest).site = s.site := rfl
@[simp] theorem State.loseRequest_supply : (s.loseRequest).supply = s.supply := rfl
@[simp] theorem State.loseRequest_walls : (s.loseRequest).walls = s.walls := rfl
@[simp] theorem State.loseRequest_map : (s.loseRequest).map = s.map := rfl
@[simp] theorem State.loseRequest_cure : (s.loseRequest).cure = s.cure := rfl
@[simp] theorem State.loseRequest_admission : (s.loseRequest).admission = s.admission := rfl
@[simp] theorem State.loseRequest_claims : (s.loseRequest).claims = s.claims := rfl
@[simp] theorem State.loseRequest_tx : (s.loseRequest).tx = s.tx := rfl
@[simp] theorem State.loseRequest_rx : (s.loseRequest).rx = s.rx := rfl
@[simp] theorem State.loseRequest_notice : (s.loseRequest).notice = s.notice := rfl
@[simp] theorem State.loseRequest_monitor : (s.loseRequest).monitor = s.monitor := rfl
@[simp] theorem State.loseRequest_stop : (s.loseRequest).stop = s.stop := rfl
@[simp] theorem State.loseRequest_port :
    (s.loseRequest).port = { s.port with requestsLost := true } := rfl
@[simp] theorem State.loseRequest_freeCount : (s.loseRequest).freeCount = s.freeCount := rfl
@[simp] theorem State.loseRequest_pending : (s.loseRequest).pending = s.pending := rfl

/-! #### withPending -/

@[simp] theorem State.withPending_now (l : List Instr) : (s.withPending l).now = s.now := rfl
@[simp] theorem State.withPending_site (l : List Instr) : (s.withPending l).site = s.site := rfl
@[simp] theorem State.withPending_supply (l : List Instr) :
    (s.withPending l).supply = s.supply := rfl
@[simp] theorem State.withPending_walls (l : List Instr) : (s.withPending l).walls = s.walls := rfl
@[simp] theorem State.withPending_map (l : List Instr) : (s.withPending l).map = s.map := rfl
@[simp] theorem State.withPending_cure (l : List Instr) : (s.withPending l).cure = s.cure := rfl
@[simp] theorem State.withPending_admission (l : List Instr) :
    (s.withPending l).admission = s.admission := rfl
@[simp] theorem State.withPending_claims (l : List Instr) :
    (s.withPending l).claims = s.claims := rfl
@[simp] theorem State.withPending_tx (l : List Instr) : (s.withPending l).tx = s.tx := rfl
@[simp] theorem State.withPending_rx (l : List Instr) : (s.withPending l).rx = s.rx := rfl
@[simp] theorem State.withPending_notice (l : List Instr) :
    (s.withPending l).notice = s.notice := rfl
@[simp] theorem State.withPending_monitor (l : List Instr) :
    (s.withPending l).monitor = s.monitor := rfl
@[simp] theorem State.withPending_stop (l : List Instr) : (s.withPending l).stop = s.stop := rfl
@[simp] theorem State.withPending_port (l : List Instr) : (s.withPending l).port = s.port := rfl
@[simp] theorem State.withPending_freeCount (l : List Instr) :
    (s.withPending l).freeCount = s.freeCount := rfl
@[simp] theorem State.withPending_pending (l : List Instr) : (s.withPending l).pending = l := rfl

/-! #### mapClass -/

@[simp] theorem State.mapClass_now (k : Nat) (f : CureClass → CureClass) :
    (s.mapClass k f).now = s.now := rfl
@[simp] theorem State.mapClass_site (k : Nat) (f : CureClass → CureClass) :
    (s.mapClass k f).site = s.site := rfl
@[simp] theorem State.mapClass_supply (k : Nat) (f : CureClass → CureClass) :
    (s.mapClass k f).supply = s.supply := rfl
@[simp] theorem State.mapClass_walls (k : Nat) (f : CureClass → CureClass) :
    (s.mapClass k f).walls = s.walls := rfl
@[simp] theorem State.mapClass_map (k : Nat) (f : CureClass → CureClass) :
    (s.mapClass k f).map = s.map := rfl
@[simp] theorem State.mapClass_cure (k : Nat) (f : CureClass → CureClass) :
    (s.mapClass k f).cure = { s.cure with classes := s.cure.classes.modify k f } := rfl
@[simp] theorem State.mapClass_admission (k : Nat) (f : CureClass → CureClass) :
    (s.mapClass k f).admission = s.admission := rfl
@[simp] theorem State.mapClass_claims (k : Nat) (f : CureClass → CureClass) :
    (s.mapClass k f).claims = s.claims := rfl
@[simp] theorem State.mapClass_tx (k : Nat) (f : CureClass → CureClass) :
    (s.mapClass k f).tx = s.tx := rfl
@[simp] theorem State.mapClass_rx (k : Nat) (f : CureClass → CureClass) :
    (s.mapClass k f).rx = s.rx := rfl
@[simp] theorem State.mapClass_notice (k : Nat) (f : CureClass → CureClass) :
    (s.mapClass k f).notice = s.notice := rfl
@[simp] theorem State.mapClass_monitor (k : Nat) (f : CureClass → CureClass) :
    (s.mapClass k f).monitor = s.monitor := rfl
@[simp] theorem State.mapClass_stop (k : Nat) (f : CureClass → CureClass) :
    (s.mapClass k f).stop = s.stop := rfl
@[simp] theorem State.mapClass_port (k : Nat) (f : CureClass → CureClass) :
    (s.mapClass k f).port = s.port := rfl
@[simp] theorem State.mapClass_freeCount (k : Nat) (f : CureClass → CureClass) :
    (s.mapClass k f).freeCount = s.freeCount := rfl
@[simp] theorem State.mapClass_pending (k : Nat) (f : CureClass → CureClass) :
    (s.mapClass k f).pending = s.pending := rfl

/-! #### mapPlacement -/

@[simp] theorem State.mapPlacement_now (i : Nat) (f : Placement → Placement) :
    (s.mapPlacement i f).now = s.now := rfl
@[simp] theorem State.mapPlacement_site (i : Nat) (f : Placement → Placement) :
    (s.mapPlacement i f).site = s.site := rfl
@[simp] theorem State.mapPlacement_supply (i : Nat) (f : Placement → Placement) :
    (s.mapPlacement i f).supply = s.supply := rfl
@[simp] theorem State.mapPlacement_walls (i : Nat) (f : Placement → Placement) :
    (s.mapPlacement i f).walls = s.walls := rfl
@[simp] theorem State.mapPlacement_map (i : Nat) (f : Placement → Placement) :
    (s.mapPlacement i f).map = s.map := rfl
@[simp] theorem State.mapPlacement_cure (i : Nat) (f : Placement → Placement) :
    (s.mapPlacement i f).cure = s.cure := rfl
@[simp] theorem State.mapPlacement_admission (i : Nat) (f : Placement → Placement) :
    (s.mapPlacement i f).admission = { s.admission with queue := s.admission.queue.modify i fun p => p.changedTo (f p) } := rfl
@[simp] theorem State.mapPlacement_claims (i : Nat) (f : Placement → Placement) :
    (s.mapPlacement i f).claims = s.claims := rfl
@[simp] theorem State.mapPlacement_tx (i : Nat) (f : Placement → Placement) :
    (s.mapPlacement i f).tx = s.tx := rfl
@[simp] theorem State.mapPlacement_rx (i : Nat) (f : Placement → Placement) :
    (s.mapPlacement i f).rx = s.rx := rfl
@[simp] theorem State.mapPlacement_notice (i : Nat) (f : Placement → Placement) :
    (s.mapPlacement i f).notice = s.notice := rfl
@[simp] theorem State.mapPlacement_monitor (i : Nat) (f : Placement → Placement) :
    (s.mapPlacement i f).monitor = s.monitor := rfl
@[simp] theorem State.mapPlacement_stop (i : Nat) (f : Placement → Placement) :
    (s.mapPlacement i f).stop = s.stop := rfl
@[simp] theorem State.mapPlacement_port (i : Nat) (f : Placement → Placement) :
    (s.mapPlacement i f).port = s.port := rfl
@[simp] theorem State.mapPlacement_freeCount (i : Nat) (f : Placement → Placement) :
    (s.mapPlacement i f).freeCount = s.freeCount := rfl
@[simp] theorem State.mapPlacement_pending (i : Nat) (f : Placement → Placement) :
    (s.mapPlacement i f).pending = s.pending := rfl

/-! #### mapClaim -/

@[simp] theorem State.mapClaim_now (n : Octet) (f : OwnClaim → OwnClaim) :
    (s.mapClaim n f).now = s.now := rfl
@[simp] theorem State.mapClaim_site (n : Octet) (f : OwnClaim → OwnClaim) :
    (s.mapClaim n f).site = s.site := rfl
@[simp] theorem State.mapClaim_supply (n : Octet) (f : OwnClaim → OwnClaim) :
    (s.mapClaim n f).supply = s.supply := rfl
@[simp] theorem State.mapClaim_walls (n : Octet) (f : OwnClaim → OwnClaim) :
    (s.mapClaim n f).walls = s.walls := rfl
@[simp] theorem State.mapClaim_map (n : Octet) (f : OwnClaim → OwnClaim) :
    (s.mapClaim n f).map = s.map := rfl
@[simp] theorem State.mapClaim_cure (n : Octet) (f : OwnClaim → OwnClaim) :
    (s.mapClaim n f).cure = s.cure := rfl
@[simp] theorem State.mapClaim_admission (n : Octet) (f : OwnClaim → OwnClaim) :
    (s.mapClaim n f).admission = s.admission := rfl
@[simp] theorem State.mapClaim_claims (n : Octet) (f : OwnClaim → OwnClaim) :
    (s.mapClaim n f).claims = { s.claims with own := s.claims.own.map fun c => if c.number = n then f c else c } := rfl
@[simp] theorem State.mapClaim_tx (n : Octet) (f : OwnClaim → OwnClaim) :
    (s.mapClaim n f).tx = s.tx := rfl
@[simp] theorem State.mapClaim_rx (n : Octet) (f : OwnClaim → OwnClaim) :
    (s.mapClaim n f).rx = s.rx := rfl
@[simp] theorem State.mapClaim_notice (n : Octet) (f : OwnClaim → OwnClaim) :
    (s.mapClaim n f).notice = s.notice := rfl
@[simp] theorem State.mapClaim_monitor (n : Octet) (f : OwnClaim → OwnClaim) :
    (s.mapClaim n f).monitor = s.monitor := rfl
@[simp] theorem State.mapClaim_stop (n : Octet) (f : OwnClaim → OwnClaim) :
    (s.mapClaim n f).stop = s.stop := rfl
@[simp] theorem State.mapClaim_port (n : Octet) (f : OwnClaim → OwnClaim) :
    (s.mapClaim n f).port = s.port := rfl
@[simp] theorem State.mapClaim_freeCount (n : Octet) (f : OwnClaim → OwnClaim) :
    (s.mapClaim n f).freeCount = s.freeCount := rfl
@[simp] theorem State.mapClaim_pending (n : Octet) (f : OwnClaim → OwnClaim) :
    (s.mapClaim n f).pending = s.pending := rfl

/-! #### deleteClaim -/

@[simp] theorem State.deleteClaim_now (n : Octet) : (s.deleteClaim n).now = s.now := rfl
@[simp] theorem State.deleteClaim_site (n : Octet) : (s.deleteClaim n).site = s.site := rfl
@[simp] theorem State.deleteClaim_supply (n : Octet) : (s.deleteClaim n).supply = s.supply := rfl
@[simp] theorem State.deleteClaim_walls (n : Octet) : (s.deleteClaim n).walls = s.walls := rfl
@[simp] theorem State.deleteClaim_map (n : Octet) : (s.deleteClaim n).map = s.map := rfl
@[simp] theorem State.deleteClaim_cure (n : Octet) : (s.deleteClaim n).cure = s.cure := rfl
@[simp] theorem State.deleteClaim_admission (n : Octet) :
    (s.deleteClaim n).admission = s.admission := rfl
@[simp] theorem State.deleteClaim_claims (n : Octet) :
    (s.deleteClaim n).claims = { s.claims with own := s.claims.own.filter fun c => c.number != n } := rfl
@[simp] theorem State.deleteClaim_tx (n : Octet) : (s.deleteClaim n).tx = s.tx := rfl
@[simp] theorem State.deleteClaim_rx (n : Octet) : (s.deleteClaim n).rx = s.rx := rfl
@[simp] theorem State.deleteClaim_notice (n : Octet) : (s.deleteClaim n).notice = s.notice := rfl
@[simp] theorem State.deleteClaim_monitor (n : Octet) : (s.deleteClaim n).monitor = s.monitor := rfl
@[simp] theorem State.deleteClaim_stop (n : Octet) : (s.deleteClaim n).stop = s.stop := rfl
@[simp] theorem State.deleteClaim_port (n : Octet) : (s.deleteClaim n).port = s.port := rfl
@[simp] theorem State.deleteClaim_freeCount (n : Octet) :
    (s.deleteClaim n).freeCount = s.freeCount := rfl
@[simp] theorem State.deleteClaim_pending (n : Octet) : (s.deleteClaim n).pending = s.pending := rfl

/-! #### pushUrgent -/

@[simp] theorem State.pushUrgent_now (r : UrgentRecord) : (s.pushUrgent r).now = s.now := rfl
@[simp] theorem State.pushUrgent_site (r : UrgentRecord) : (s.pushUrgent r).site = s.site := rfl
@[simp] theorem State.pushUrgent_supply (r : UrgentRecord) :
    (s.pushUrgent r).supply = s.supply := rfl
@[simp] theorem State.pushUrgent_walls (r : UrgentRecord) : (s.pushUrgent r).walls = s.walls := rfl
@[simp] theorem State.pushUrgent_map (r : UrgentRecord) : (s.pushUrgent r).map = s.map := rfl
@[simp] theorem State.pushUrgent_cure (r : UrgentRecord) : (s.pushUrgent r).cure = s.cure := rfl
@[simp] theorem State.pushUrgent_admission (r : UrgentRecord) :
    (s.pushUrgent r).admission = s.admission := rfl
@[simp] theorem State.pushUrgent_claims (r : UrgentRecord) :
    (s.pushUrgent r).claims = s.claims := rfl
@[simp] theorem State.pushUrgent_tx (r : UrgentRecord) :
    (s.pushUrgent r).tx = { s.tx with urgent := s.tx.urgent ++ [r] } := rfl
@[simp] theorem State.pushUrgent_rx (r : UrgentRecord) : (s.pushUrgent r).rx = s.rx := rfl
@[simp] theorem State.pushUrgent_notice (r : UrgentRecord) :
    (s.pushUrgent r).notice = s.notice := rfl
@[simp] theorem State.pushUrgent_monitor (r : UrgentRecord) :
    (s.pushUrgent r).monitor = s.monitor := rfl
@[simp] theorem State.pushUrgent_stop (r : UrgentRecord) : (s.pushUrgent r).stop = s.stop := rfl
@[simp] theorem State.pushUrgent_port (r : UrgentRecord) : (s.pushUrgent r).port = s.port := rfl
@[simp] theorem State.pushUrgent_freeCount (r : UrgentRecord) :
    (s.pushUrgent r).freeCount = s.freeCount := rfl
@[simp] theorem State.pushUrgent_pending (r : UrgentRecord) :
    (s.pushUrgent r).pending = s.pending := rfl

/-! #### queueClaim -/

@[simp] theorem State.queueClaim_now (n : Octet) : (s.queueClaim n).now = s.now := rfl
@[simp] theorem State.queueClaim_site (n : Octet) : (s.queueClaim n).site = s.site := rfl
@[simp] theorem State.queueClaim_supply (n : Octet) : (s.queueClaim n).supply = s.supply := rfl
@[simp] theorem State.queueClaim_walls (n : Octet) : (s.queueClaim n).walls = s.walls := rfl
@[simp] theorem State.queueClaim_map (n : Octet) : (s.queueClaim n).map = s.map := rfl
@[simp] theorem State.queueClaim_cure (n : Octet) : (s.queueClaim n).cure = s.cure := rfl
@[simp] theorem State.queueClaim_admission (n : Octet) :
    (s.queueClaim n).admission = s.admission := rfl
@[simp] theorem State.queueClaim_claims (n : Octet) :
    (s.queueClaim n).claims = (s.mapClaim n fun c => { c with announce := .queued }).claims := rfl
@[simp] theorem State.queueClaim_tx (n : Octet) :
    (s.queueClaim n).tx = { s.tx with urgent := s.tx.urgent ++ [.claim n] } := rfl
@[simp] theorem State.queueClaim_rx (n : Octet) : (s.queueClaim n).rx = s.rx := rfl
@[simp] theorem State.queueClaim_notice (n : Octet) : (s.queueClaim n).notice = s.notice := rfl
@[simp] theorem State.queueClaim_monitor (n : Octet) : (s.queueClaim n).monitor = s.monitor := rfl
@[simp] theorem State.queueClaim_stop (n : Octet) : (s.queueClaim n).stop = s.stop := rfl
@[simp] theorem State.queueClaim_port (n : Octet) : (s.queueClaim n).port = s.port := rfl
@[simp] theorem State.queueClaim_freeCount (n : Octet) :
    (s.queueClaim n).freeCount = s.freeCount := rfl
@[simp] theorem State.queueClaim_pending (n : Octet) : (s.queueClaim n).pending = s.pending := rfl

/-! #### withSendPhase -/

@[simp] theorem State.withSendPhase_now (x : SendPhase) : (s.withSendPhase x).now = s.now := rfl
@[simp] theorem State.withSendPhase_site (x : SendPhase) : (s.withSendPhase x).site = s.site := rfl
@[simp] theorem State.withSendPhase_supply (x : SendPhase) :
    (s.withSendPhase x).supply = s.supply := rfl
@[simp] theorem State.withSendPhase_walls (x : SendPhase) :
    (s.withSendPhase x).walls = s.walls := rfl
@[simp] theorem State.withSendPhase_map (x : SendPhase) : (s.withSendPhase x).map = s.map := rfl
@[simp] theorem State.withSendPhase_cure (x : SendPhase) : (s.withSendPhase x).cure = s.cure := rfl
@[simp] theorem State.withSendPhase_admission (x : SendPhase) :
    (s.withSendPhase x).admission = s.admission := rfl
@[simp] theorem State.withSendPhase_claims (x : SendPhase) :
    (s.withSendPhase x).claims = s.claims := rfl
@[simp] theorem State.withSendPhase_tx (x : SendPhase) :
    (s.withSendPhase x).tx = { s.tx with
      current := s.tx.current.map fun f => { f with sent := 0, phase := x } } := rfl
@[simp] theorem State.withSendPhase_rx (x : SendPhase) : (s.withSendPhase x).rx = s.rx := rfl
@[simp] theorem State.withSendPhase_notice (x : SendPhase) :
    (s.withSendPhase x).notice = s.notice := rfl
@[simp] theorem State.withSendPhase_monitor (x : SendPhase) :
    (s.withSendPhase x).monitor = s.monitor := rfl
@[simp] theorem State.withSendPhase_stop (x : SendPhase) : (s.withSendPhase x).stop = s.stop := rfl
@[simp] theorem State.withSendPhase_port (x : SendPhase) : (s.withSendPhase x).port = s.port := rfl
@[simp] theorem State.withSendPhase_freeCount (x : SendPhase) :
    (s.withSendPhase x).freeCount = s.freeCount := rfl
@[simp] theorem State.withSendPhase_pending (x : SendPhase) :
    (s.withSendPhase x).pending = s.pending := rfl

/-! #### removeClaimRecords -/

@[simp] theorem State.removeClaimRecords_now (n : Octet) :
    (s.removeClaimRecords n).now = s.now := rfl
@[simp] theorem State.removeClaimRecords_site (n : Octet) :
    (s.removeClaimRecords n).site = s.site := rfl
@[simp] theorem State.removeClaimRecords_supply (n : Octet) :
    (s.removeClaimRecords n).supply = s.supply := rfl
@[simp] theorem State.removeClaimRecords_walls (n : Octet) :
    (s.removeClaimRecords n).walls = s.walls := rfl
@[simp] theorem State.removeClaimRecords_map (n : Octet) :
    (s.removeClaimRecords n).map = s.map := rfl
@[simp] theorem State.removeClaimRecords_cure (n : Octet) :
    (s.removeClaimRecords n).cure = s.cure := rfl
@[simp] theorem State.removeClaimRecords_admission (n : Octet) :
    (s.removeClaimRecords n).admission = s.admission := rfl
@[simp] theorem State.removeClaimRecords_claims (n : Octet) :
    (s.removeClaimRecords n).claims = s.claims := rfl
@[simp] theorem State.removeClaimRecords_tx (n : Octet) :
    (s.removeClaimRecords n).tx = { s.tx with urgent := s.tx.urgent.filter fun r => r != .claim n } := rfl
@[simp] theorem State.removeClaimRecords_rx (n : Octet) : (s.removeClaimRecords n).rx = s.rx := rfl
@[simp] theorem State.removeClaimRecords_notice (n : Octet) :
    (s.removeClaimRecords n).notice = s.notice := rfl
@[simp] theorem State.removeClaimRecords_monitor (n : Octet) :
    (s.removeClaimRecords n).monitor = s.monitor := rfl
@[simp] theorem State.removeClaimRecords_stop (n : Octet) :
    (s.removeClaimRecords n).stop = s.stop := rfl
@[simp] theorem State.removeClaimRecords_port (n : Octet) :
    (s.removeClaimRecords n).port = s.port := rfl
@[simp] theorem State.removeClaimRecords_freeCount (n : Octet) :
    (s.removeClaimRecords n).freeCount = s.freeCount := rfl
@[simp] theorem State.removeClaimRecords_pending (n : Octet) :
    (s.removeClaimRecords n).pending = s.pending := rfl

/-! #### suspendMotion -/

@[simp] theorem State.suspendMotion_now : (s.suspendMotion).now = s.now := rfl
@[simp] theorem State.suspendMotion_site : (s.suspendMotion).site = s.site := rfl
@[simp] theorem State.suspendMotion_supply : (s.suspendMotion).supply = s.supply := rfl
@[simp] theorem State.suspendMotion_walls : (s.suspendMotion).walls = s.walls := rfl
@[simp] theorem State.suspendMotion_map : (s.suspendMotion).map = s.map := rfl
@[simp] theorem State.suspendMotion_cure : (s.suspendMotion).cure = s.cure := rfl
@[simp] theorem State.suspendMotion_admission :
    (s.suspendMotion).admission = { s.admission with queue := s.admission.queue.map fun p => { p with motion := p.motion.suspend s.now } } := rfl
@[simp] theorem State.suspendMotion_claims : (s.suspendMotion).claims = s.claims := rfl
@[simp] theorem State.suspendMotion_tx : (s.suspendMotion).tx = s.tx := rfl
@[simp] theorem State.suspendMotion_rx : (s.suspendMotion).rx = s.rx := rfl
@[simp] theorem State.suspendMotion_notice : (s.suspendMotion).notice = s.notice := rfl
@[simp] theorem State.suspendMotion_monitor : (s.suspendMotion).monitor = s.monitor := rfl
@[simp] theorem State.suspendMotion_stop : (s.suspendMotion).stop = s.stop := rfl
@[simp] theorem State.suspendMotion_port : (s.suspendMotion).port = s.port := rfl
@[simp] theorem State.suspendMotion_freeCount : (s.suspendMotion).freeCount = s.freeCount := rfl
@[simp] theorem State.suspendMotion_pending : (s.suspendMotion).pending = s.pending := rfl

/-! #### resumeMotion -/

@[simp] theorem State.resumeMotion_now : (s.resumeMotion).now = s.now := rfl
@[simp] theorem State.resumeMotion_site : (s.resumeMotion).site = s.site := rfl
@[simp] theorem State.resumeMotion_supply : (s.resumeMotion).supply = s.supply := rfl
@[simp] theorem State.resumeMotion_walls : (s.resumeMotion).walls = s.walls := rfl
@[simp] theorem State.resumeMotion_map : (s.resumeMotion).map = s.map := rfl
@[simp] theorem State.resumeMotion_cure : (s.resumeMotion).cure = s.cure := rfl
@[simp] theorem State.resumeMotion_admission :
    (s.resumeMotion).admission
      = { s.admission with queue := s.admission.queue.map (Placement.resume s.now) } := rfl
@[simp] theorem State.resumeMotion_claims : (s.resumeMotion).claims = s.claims := rfl
@[simp] theorem State.resumeMotion_tx : (s.resumeMotion).tx = s.tx := rfl
@[simp] theorem State.resumeMotion_rx : (s.resumeMotion).rx = s.rx := rfl
@[simp] theorem State.resumeMotion_notice : (s.resumeMotion).notice = s.notice := rfl
@[simp] theorem State.resumeMotion_monitor : (s.resumeMotion).monitor = s.monitor := rfl
@[simp] theorem State.resumeMotion_stop : (s.resumeMotion).stop = s.stop := rfl
@[simp] theorem State.resumeMotion_port : (s.resumeMotion).port = s.port := rfl
@[simp] theorem State.resumeMotion_freeCount : (s.resumeMotion).freeCount = s.freeCount := rfl
@[simp] theorem State.resumeMotion_pending : (s.resumeMotion).pending = s.pending := rfl

end Sys2Proof.Machine
end

