-- ==== Sys2Proof/Laws/Frames.lean ====
section
/-! SUPPORT. What each shared operation leaves alone, said once: frames over the blocks of the state. -/

namespace Sys2Proof.Machine

/-! ### Frames compose -/

theorem Frame.refl (l : List Block) (s : State) : Frame l s s := by
  intro b _; cases b <;> rfl

theorem Frame.trans {l : List Block} {s t u : State} (h : Frame l s t) (k : Frame l t u) :
    Frame l s u := by
  intro b hb
  have h1 := h b hb
  have h2 := k b hb
  cases b <;> exact h2.trans h1

theorem Frame.mono {l m : List Block} {s t : State} (h : Frame l s t)
    (sub : l.all m.contains = true) : Frame m s t := by
  intro b hb
  refine h b fun hl => hb ?_
  have := List.all_eq_true.mp sub b hl
  simpa using this

/-- A frame passes through a choice. -/
theorem Frame.ite {l : List Block} {s t u : State} {p : Prop} [Decidable p] (h : Frame l s t)
    (k : Frame l s u) : Frame l s (if p then t else u) := by
  split <;> assumption

/-- A fold of framed steps is framed. -/
theorem Frame.foldl {α : Type} {l : List Block} {f : State → α → State}
    (h : ∀ s a, Frame l s (f s a)) (xs : List α) (s : State) : Frame l s (xs.foldl f s) := by
  induction xs generalizing s with
  | nil => exact Frame.refl l s
  | cons x xs ih => exact (h s x).trans (ih (f s x))

/-! ### Claims and transmit queues -/

theorem State.queueClaim_frame (s : State) (n : Octet) :
    Frame [.claims, .tx] s (s.queueClaim n) := by
  intro b hb; cases b <;> simp [State.agreesOn] at hb ⊢

/-- Serving the OWED announces changes their claims and the urgent queue. -/
theorem State.serveOwed_frame (s : State) : Frame [.claims, .tx] s s.serveOwed :=
  Frame.foldl (fun _ _ => Frame.ite (State.queueClaim_frame _ _) (Frame.refl _ _)) _ _

theorem State.queueRelease_frame (s : State) (n : Octet) :
    Frame [.claims, .tx] s (s.queueRelease n) := by
  refine (State.serveOwed_frame s).trans (Frame.ite ?_ (Frame.refl _ _))
  intro b hb; cases b <;> simp [State.agreesOn] at hb ⊢

theorem State.requestAnnounce_frame (s : State) (n : Octet) :
    Frame [.claims, .tx] s (s.requestAnnounce n) := by
  unfold State.requestAnnounce
  split
  · exact Frame.refl _ _
  · refine Frame.ite ((State.serveOwed_frame s).trans
      (Frame.ite (State.queueClaim_frame _ _) ?_)) (Frame.refl _ _)
    intro b hb; cases b <;> simp [State.agreesOn] at hb ⊢

theorem State.dismissClaim_frame (s : State) (c : OwnClaim) :
    Frame [.claims, .tx] s (s.dismissClaim c) := by
  have h : Frame [.claims, .tx] s (s.deleteClaim c.number) := by
    intro b hb; cases b <;> simp [State.agreesOn] at hb ⊢
  unfold State.dismissClaim
  simp only
  split
  · exact h.trans (State.queueRelease_frame _ _)
  · exact h

theorem State.abandonClaim_frame (s : State) (c : OwnClaim) :
    Frame [.claims, .tx] s (s.abandonClaim c) := by
  have h : Frame [.claims, .tx] s (s.removeClaimRecords c.number) := by
    intro b hb; cases b <;> simp [State.agreesOn] at hb ⊢
  unfold State.abandonClaim
  simp only
  split
  · intro b hb; cases b <;> simp [State.agreesOn] at hb ⊢
  · refine Frame.trans (t := (s.removeClaimRecords c.number).withCurrent none) ?_
      (State.dismissClaim_frame _ _)
    intro b hb; cases b <;> simp [State.agreesOn] at hb ⊢
  · exact h.trans (State.dismissClaim_frame _ _)

theorem State.abandonTag_frame (s : State) (tag : Octet) :
    Frame [.claims, .tx] s (s.abandonTag tag) := by
  unfold State.abandonTag
  split
  · exact Frame.refl _ _
  · exact State.abandonClaim_frame _ _

theorem State.refreshContested_frame (s : State) : Frame [.claims, .tx] s s.refreshContested :=
  Frame.foldl State.requestAnnounce_frame _ _

/-! ### Head evaluation -/

theorem State.announceHead_frame (s : State) (i : Nat) (p : Placement) :
    Frame [.admission, .claims, .tx] s (s.announceHead i p) := by
  refine Frame.trans ((State.serveOwed_frame s).mono rfl) ?_
  intro b hb; cases b <;> simp [State.agreesOn, State.announceHead] at hb ⊢

theorem State.mapPlacement_frame (s : State) (i : Nat) (f : Placement → Placement) :
    Frame [.admission] s (s.mapPlacement i f) := by
  intro b hb; cases b <;> simp [State.agreesOn] at hb ⊢

theorem State.evalHeads_frame (k : Nat) (s : State) :
    Frame [.admission, .claims, .tx] s (State.evalHeads k s) := by
  induction k generalizing s with
  | zero => exact Frame.refl _ _
  | succ k ih =>
    unfold State.evalHeads
    have h : ∀ i f, Frame [.admission, .claims, .tx] s (s.mapPlacement i f) := fun i f =>
      (State.mapPlacement_frame s i f).mono rfl
    repeat' split
    all_goals first
      | exact Frame.refl _ _
      | exact (h _ _).trans (ih _)
      | exact h _ _
      | exact (State.announceHead_frame s _ _).trans
          ((State.refreshContested_frame _).mono rfl)

/-- The head evaluation changes placements, claims and the transmit queues only. -/
theorem State.evalHead_frame (s : State) : Frame [.admission, .claims, .tx] s s.evalHead := by
  unfold State.evalHead
  split
  · exact State.evalHeads_frame _ _
  · exact Frame.refl _ _

/-! ### Yields, causes and conflict re-evaluation -/

theorem State.yieldAnnounced_frame (s : State) :
    Frame [.admission, .claims, .tx, .freeCount] s s.yieldAnnounced := by
  unfold State.yieldAnnounced
  repeat' split
  · exact Frame.refl _ _
  · exact Frame.refl _ _
  · rename_i i _ p _
    have h := State.abandonTag_frame s p.tag
    intro b hb
    have hb' := h b (by simp at hb ⊢; tauto)
    cases b <;> simp [State.agreesOn] at hb hb' ⊢ <;> assumption

theorem State.blockingTest_frame (s : State) :
    Frame [.admission, .claims, .tx, .freeCount] s s.blockingTest := by
  unfold State.blockingTest
  repeat' split
  all_goals first
    | exact Frame.refl _ _
    | exact State.yieldAnnounced_frame _

theorem State.causeJoins_frame (s : State) (c : Cause) :
    Frame [.stop, .port, .admission] s (s.causeJoins c) := by
  unfold State.causeJoins
  repeat' split
  · exact Frame.refl _ _
  all_goals
    intro b hb; cases b <;> simp [State.agreesOn] at hb ⊢

theorem State.causeLeaves_frame (s : State) (c : Cause) :
    Frame [.stop, .port] s (s.causeLeaves c) := by
  unfold State.causeLeaves
  split
  · intro b hb; cases b <;> simp [State.agreesOn] at hb ⊢
  · exact Frame.refl _ _

theorem State.nameConflict_frame (s : State) (n : Nat) :
    Frame [.stop, .port] s (s.nameConflict n) := by
  unfold State.nameConflict
  split
  · exact Frame.refl _ _
  · intro b hb; cases b <;> simp [State.agreesOn] at hb ⊢

/-- The blocks that a change handed to the admission controller can touch. -/
def cascade : List Block := [.admission, .claims, .tx, .stop, .port, .freeCount]

theorem State.evalHead_cascade (s : State) : Frame cascade s s.evalHead :=
  (State.evalHead_frame s).mono rfl

theorem State.yieldAnnounced_cascade (s : State) : Frame cascade s s.yieldAnnounced :=
  (State.yieldAnnounced_frame s).mono rfl

theorem State.causeJoins_cascade (s : State) (c : Cause) : Frame cascade s (s.causeJoins c) :=
  (State.causeJoins_frame s c).mono rfl

theorem State.causeLeaves_cascade (s : State) (c : Cause) : Frame cascade s (s.causeLeaves c) :=
  (State.causeLeaves_frame s c).mono rfl

theorem State.conflictTest_cascade (s : State) : Frame cascade s s.conflictTest := by
  unfold State.conflictTest
  repeat' split
  · exact State.causeLeaves_cascade _ _
  · exact (State.nameConflict_frame _ _).mono rfl
  · exact ((State.causeJoins_cascade _ _).trans
      ((State.nameConflict_frame _ _).mono rfl)).trans
      (State.yieldAnnounced_cascade _)

/-- Conflict re-evaluation changes placements, claims, transmit queues, stop causes and owed reports
only. -/
theorem State.reevaluate_cascade (s : State) : Frame cascade s s.reevaluate :=
  ((((State.blockingTest_frame s).mono rfl).trans
    (State.conflictTest_cascade _)).trans
    ((State.refreshContested_frame _).mono rfl)).trans
    (State.evalHead_cascade _)

theorem State.gateLost_cascade (s : State) : Frame cascade s s.gateLost := by
  unfold State.gateLost
  split
  · exact (State.yieldAnnounced_cascade _).trans (State.reevaluate_cascade _)
  · exact State.evalHead_cascade _

theorem State.addCause_cascade (s : State) (c : Cause) : Frame cascade s (s.addCause c) := by
  unfold State.addCause
  split
  · exact Frame.refl _ _
  · exact (State.causeJoins_cascade _ _).trans (State.gateLost_cascade _)

theorem State.dropCause_cascade (s : State) (c : Cause) : Frame cascade s (s.dropCause c) := by
  unfold State.dropCause
  split
  · exact (State.causeLeaves_cascade _ _).trans (State.evalHead_cascade _)
  · exact Frame.refl _ _

theorem State.judgeLapse_cascade (s : State) : Frame cascade s s.judgeLapse := by
  unfold State.judgeLapse
  split
  · exact State.addCause_cascade _ _
  · exact State.dropCause_cascade _ _

theorem State.mapChanged_cascade (s : State) : Frame cascade s s.mapChanged := by
  have h : ∀ (p : Placement) (i : Nat) (f : Placement → Placement),
      Frame cascade s (((s.abandonTag p.tag).mapPlacement i f).reevaluate) := fun p i f =>
    (((State.abandonTag_frame s p.tag).mono rfl).trans
      ((State.mapPlacement_frame _ i f).mono rfl)).trans
      (State.reevaluate_cascade _)
  unfold State.mapChanged
  repeat' split
  all_goals first
    | exact State.evalHead_cascade _
    | exact Frame.refl _ _
    | exact h _ _ _

/-! ### Reports owed, view doubt, view lag, stability -/

theorem State.oweSite_frame (s : State) : Frame [.port] s s.oweSite := by
  intro b hb; cases b <;> simp [State.agreesOn] at hb ⊢

/-- Starting view doubt changes the notice processor, and what a lost gate changes. -/
theorem State.startDoubt_frame (s : State) : Frame (.notice :: cascade) s s.startDoubt := by
  have h : Frame (.notice :: cascade) s
      { s with notice := { s.notice with doubtDue := some (s.after s.cfg.hold) } } := by
    intro b hb; cases b <;> simp [State.agreesOn] at hb ⊢
  unfold State.startDoubt
  simp only
  split
  · exact h
  · exact (h.trans ((State.oweSite_frame _).mono rfl)).trans
      ((State.gateLost_cascade _).mono rfl)

/-- Judging view lag changes the mark, the site report owed, and what a head evaluation changes. -/
theorem State.judgeLagAt_frame (s : State) (n : Nat) :
    Frame [.rx, .port, .admission, .claims, .tx] s (s.judgeLagAt n) := by
  unfold State.judgeLagAt
  simp only
  split
  · exact Frame.refl _ _
  · have h : ∀ t : State, Frame [.rx, .port, .admission, .claims, .tx] t t.evalHead := fun t =>
      (State.evalHead_frame t).mono rfl
    refine Frame.trans ?_ (h _)
    intro b hb; cases b <;> simp [State.agreesOn] at hb ⊢

theorem State.writeStability_frame (s : State) (x : Stability) :
    Frame [.monitor, .port] s (s.writeStability x) := by
  intro b hb; cases b <;> simp [State.agreesOn, State.writeStability] at hb ⊢

theorem State.stabilityCause_cascade (s : State) (x : Stability) :
    Frame cascade s (s.stabilityCause x) :=
  Frame.ite (State.causeJoins_cascade _ _) (State.causeLeaves_cascade _ _)

/-- A change of the stability state changes the monitor's state and what a lost gate changes. -/
theorem State.setStability_frame (s : State) (x : Stability) :
    Frame (.monitor :: cascade) s (s.setStability x) := by
  have h : Frame (.monitor :: cascade) s ((s.writeStability x).stabilityCause x) :=
    ((State.writeStability_frame s x).mono rfl).trans ((State.stabilityCause_cascade _ _).mono rfl)
  unfold State.setStability
  exact Frame.ite (Frame.refl _ _)
    (Frame.ite (h.trans ((State.gateLost_cascade _).mono rfl))
      (h.trans ((State.evalHead_cascade _).mono rfl)))

end Sys2Proof.Machine
end

