-- ==== Sys2Proof/Laws/FramesMap.lean ====
section
/-! SUPPORT. Frames of the operations of the course map, the receiver, the bulk queue and the frame
outcomes. -/

namespace Sys2Proof.Machine

/-! ### Course map -/

/-- The blocks that a change of the course map can touch. -/
def mapCascade : List Block := .map :: .walls :: cascade

theorem State.raiseHeight_frame (s : State) (w h : Nat) :
    Frame [.map, .walls] s (s.raiseHeight w h) := by
  intro b hb; cases b <;> simp [State.agreesOn, State.raiseHeight] at hb ⊢

theorem State.retire_frame (w k : Nat) (s : State) : Frame mapCascade s (State.retire w k s) := by
  induction k generalizing s with
  | zero => exact Frame.refl _ _
  | succ k ih =>
    unfold State.retire
    split
    · exact Frame.refl _ _
    · exact Frame.ite ((((State.raiseHeight_frame s w _).mono rfl).trans
          ((State.mapChanged_cascade _).mono rfl)).trans (ih _)) (Frame.refl _ _)

theorem State.checkSlot_frame (s : State) (slot : Slot) : Frame mapCascade s (s.checkSlot slot) :=
  Frame.ite (State.retire_frame _ _ _) (Frame.refl _ _)

theorem State.applyHeight_frame (s : State) (w : Nat) (d : WallDef) (h : Nat) :
    Frame mapCascade s (s.applyHeight w d h) := by
  unfold State.applyHeight
  exact Frame.ite ((((State.raiseHeight_frame s w _).mono rfl).trans
    ((State.mapChanged_cascade _).mono rfl)).trans (State.retire_frame _ _ _)) (Frame.refl _ _)

theorem State.putRecord_frame (s : State) (r : SlotRecord) : Frame [.map] s (s.putRecord r) := by
  intro b hb; cases b <;> simp [State.agreesOn] at hb ⊢

theorem State.doubleLay_frame (s : State) (slot : Slot) (p : Option Nat) :
    Frame [.map, .port] s (s.doubleLay slot p) := by
  intro b hb; cases b <;> simp [State.agreesOn, State.doubleLay] at hb ⊢

theorem State.recordChanged_frame (s : State) (r : SlotRecord) :
    Frame mapCascade s (s.recordChanged r) := by
  have h : Frame mapCascade s (s.putRecord r).mapChanged :=
    ((State.putRecord_frame s r).mono rfl).trans ((State.mapChanged_cascade _).mono rfl)
  unfold State.recordChanged
  exact Frame.ite (h.trans (State.checkSlot_frame _ _)) h

theorem State.dropInsert_frame (s : State) (w : Nat) : Frame mapCascade s (s.dropInsert w) := by
  have h : ∀ f, Frame mapCascade s (s.mapWall w f) := by
    intro f b hb; cases b <;> simp [State.agreesOn, mapCascade, cascade] at hb ⊢
  unfold State.dropInsert
  exact Frame.ite (h _) (((h _).trans ((State.oweSite_frame _).mono rfl)).trans
    ((State.mapChanged_cascade _).mono rfl))

theorem State.insertPeer_frame (s : State) (slot : Slot) (n m : Nat) :
    Frame mapCascade s (s.insertPeer slot n m) :=
  Frame.ite (State.recordChanged_frame _ _) (State.dropInsert_frame _ _)

theorem State.mergePeer_frame (s : State) (r : SlotRecord) (m : Nat) :
    Frame mapCascade s (s.mergePeer r m) := by
  unfold State.mergePeer
  simp only
  repeat' split
  all_goals first
    | exact Frame.refl _ _
    | exact State.recordChanged_frame _ _

theorem State.applyEntry_frame (w n : Nat) (s : State) (e : LaidEntry) :
    Frame mapCascade s (State.applyEntry w n s e) := by
  unfold State.applyEntry
  simp only
  repeat' split
  all_goals first
    | exact Frame.refl _ _
    | exact State.insertPeer_frame _ _ _ _
    | exact (State.doubleLay_frame _ _ _).mono rfl
    | exact State.mergePeer_frame _ _ _

/-- A LAID notice changes the map, the walls, and what a told change touches. -/
theorem State.applyLaid_frame (s : State) (n w h : Nat) (l : List LaidEntry) :
    Frame mapCascade s (s.applyLaid n w h l) := by
  unfold State.applyLaid
  split
  · exact Frame.refl _ _
  · exact (State.applyHeight_frame _ _ _ _).trans (Frame.foldl (State.applyEntry_frame w n) _ _)

theorem State.walkSlot_frame (s : State) (slot : Slot) : Frame mapCascade s (s.walkSlot slot) := by
  unfold State.walkSlot
  simp only
  repeat' split
  all_goals first
    | exact Frame.refl _ _
    | exact State.recordChanged_frame _ _

/-- A sweep changes the map, the walls, and what a told change touches. -/
theorem State.sweep_frame (s : State) : Frame mapCascade s s.sweep :=
  Frame.foldl State.walkSlot_frame _ _

theorem State.conversionWalk_frame (s : State) (k : Nat) : Frame mapCascade s (s.conversionWalk k) :=
  Frame.foldl State.walkSlot_frame _ _

theorem State.ownInsert_frame (s : State) (slot : Slot) : Frame [.map, .port] s (s.ownInsert slot) := by
  unfold State.ownInsert
  simp only
  repeat' split
  all_goals first
    | exact Frame.refl _ _
    | exact State.doubleLay_frame _ _ _
    | exact (State.putRecord_frame _ _).mono rfl
    | exact ((State.putRecord_frame _ _).mono rfl).trans (State.doubleLay_frame _ _ _)

/-! ### Receiver -/

/-- The blocks that an octet on the line can touch. -/
def lineCascade : List Block := .rx :: .notice :: cascade

theorem State.withPhase_frame (s : State) (p : RxPhase) : Frame [.rx] s (s.withPhase p) := by
  intro b hb; cases b <;> simp [State.agreesOn] at hb ⊢

theorem State.withIdle_frame (s : State) (n : Nat) : Frame [.rx] s (s.withIdle n) := by
  intro b hb; cases b <;> simp [State.agreesOn] at hb ⊢

theorem State.judgeLag_frame (s : State) : Frame lineCascade s s.judgeLag :=
  (State.judgeLagAt_frame s _).mono rfl

/-- A dropped frame changes the receiver, view doubt, and what a lost gate touches. -/
theorem State.dropFrame_frame (s : State) (p : RxPhase) : Frame lineCascade s (s.dropFrame p) :=
  (((State.withPhase_frame s p).mono rfl).trans (State.judgeLag_frame _)).trans
    ((State.startDoubt_frame _).mono rfl)

theorem State.dropStatus_frame (s : State) : Frame lineCascade s s.dropStatus := by
  unfold State.dropStatus
  refine Frame.trans ?_ (State.dropFrame_frame _ _)
  exact Frame.ite ((State.judgeLagAt_frame _ _).mono rfl) (Frame.refl _ _)

theorem State.arrive_frame (s : State) (f : OpenFrame) : Frame [.rx] s (s.arrive f) := by
  intro b hb; cases b <;> simp [State.agreesOn, State.arrive] at hb ⊢

theorem State.phaseJudged_frame (s : State) (p : RxPhase) :
    Frame lineCascade s (s.withPhase p).judgeLag :=
  ((State.withPhase_frame s p).mono rfl).trans (State.judgeLag_frame _)

theorem State.huntOctet_frame (s : State) (o : Octet) (r : Bool) :
    Frame lineCascade s (s.huntOctet o r) :=
  Frame.ite ((State.withPhase_frame s _).mono rfl)
    (Frame.ite (State.dropStatus_frame _) (State.phaseJudged_frame _ _))

theorem State.lengthOctet_frame (s : State) (o : Octet) (e : Bool) :
    Frame lineCascade s (s.lengthOctet o e) :=
  Frame.ite ((State.withPhase_frame s _).mono rfl) (State.dropFrame_frame _ _)

theorem State.bodyOctet_frame (s : State) (o : Octet) (f : OpenFrame) :
    Frame lineCascade s (s.bodyOctet o f) :=
  Frame.ite (State.dropFrame_frame _ _) (State.phaseJudged_frame _ _)

theorem State.checkOctet_frame (s : State) (o : Octet) (f : OpenFrame) (x : Option Octet) :
    Frame lineCascade s (s.checkOctet o f x) := by
  cases x
  · exact (State.withPhase_frame s _).mono rfl
  · exact Frame.ite ((State.arrive_frame _ _).mono rfl) (State.dropFrame_frame _ _)

/-- An octet changes the receiver, and what its drop or its fill touches. -/
theorem State.hearOctet_frame (s : State) (o : Octet) (r : Bool) :
    Frame lineCascade s (s.hearOctet o r) := by
  unfold State.hearOctet
  split
  · exact Frame.refl _ _
  · exact Frame.refl _ _
  · exact State.huntOctet_frame _ _ _
  · exact Frame.ite (State.lengthOctet_frame _ _ _) (State.dropFrame_frame _ _)
  · exact Frame.ite (State.bodyOctet_frame _ _ _) (State.dropFrame_frame _ _)
  · exact Frame.ite (State.checkOctet_frame _ _ _ _) (State.dropFrame_frame _ _)

/-! ### Bulk queue -/

theorem State.serveSurvey_frame (s : State) : Frame [.notice, .tx] s s.serveSurvey := by
  refine Frame.ite ?_ (Frame.refl _ _)
  intro b hb; cases b <;> simp [State.agreesOn, State.queueSurvey] at hb ⊢

theorem State.serveAnswer_frame (s : State) : Frame [.walls, .notice, .tx] s s.serveAnswer := by
  refine Frame.ite ?_ (Frame.refl _ _)
  unfold State.queueAnswer
  split
  · exact Frame.refl _ _
  · intro b hb; cases b <;> simp [State.agreesOn] at hb ⊢

theorem State.serveAnnounce_frame (s : State) : Frame [.tx] s s.serveAnnounce := by
  refine Frame.ite ?_ (Frame.refl _ _)
  unfold State.queueAnnounce
  split
  · exact Frame.refl _ _
  · intro b hb; cases b <;> simp [State.agreesOn] at hb ⊢

theorem State.serveOlder_frame (s : State) : Frame [.walls, .notice, .tx] s s.serveOlder :=
  ((State.serveSurvey_frame s).mono rfl).trans
    (Frame.foldl (fun t _ => State.serveAnswer_frame t) _ _)

/-- Offering the free bulk places changes answer states, the notice processor's waiting sources and the
bulk queue. -/
theorem State.serveBulk_frame (s : State) : Frame [.walls, .notice, .tx] s s.serveBulk :=
  (State.serveOlder_frame s).trans
    (Frame.foldl (fun t _ => (State.serveAnnounce_frame t).mono rfl) _ _)

theorem State.oweAnswer_frame (s : State) (w : Nat) :
    Frame [.walls, .notice, .tx] s (s.oweAnswer w) := by
  refine (State.serveOlder_frame s).trans (Frame.ite ?_ ?_) <;>
    (intro b hb; cases b <;> simp [State.agreesOn] at hb ⊢)

theorem State.surveyWall_frame (s : State) (w : Nat) :
    Frame [.walls, .notice, .tx] s (s.surveyWall w) := by
  unfold State.surveyWall
  split
  · exact (State.serveBulk_frame s).trans (State.oweAnswer_frame _ _)
  · exact Frame.refl _ _
  · exact Frame.refl _ _
  · intro b hb; cases b <;> simp [State.agreesOn] at hb ⊢

theorem State.endAnswer_frame (s : State) (w : Nat) :
    Frame [.walls, .notice, .tx] s (s.endAnswer w) := by
  have h : ∀ t : State, Frame [.walls, .notice, .tx] t (t.answerDone w) := by
    intro t
    have k : ∀ f, Frame [.walls, .notice, .tx] t (t.mapWall w f) := by
      intro f b hb; cases b <;> simp [State.agreesOn] at hb ⊢
    exact Frame.ite ((k _).trans (State.oweAnswer_frame _ _)) (k _)
  refine Frame.trans ?_ (h _)
  intro b hb; cases b <;> simp [State.agreesOn] at hb ⊢

/-! ### Collisions -/

/-- The blocks that the outcome of a frame can touch. -/
def outcomeCascade : List Block := .walls :: .notice :: cascade

/-- The blocks that the end of an attempt can touch. -/
def attemptCascade : List Block := .rx :: outcomeCascade

theorem State.mapTag_frame (s : State) (tag : Octet) (x : PlacementState)
    (f : Placement → Placement) : Frame [.admission] s (s.mapTag tag x f) := by
  unfold State.mapTag
  split
  · exact Frame.refl _ _
  · exact State.mapPlacement_frame _ _ _

theorem State.deleteClaim_frame (s : State) (n : Octet) : Frame [.claims] s (s.deleteClaim n) := by
  intro b hb; cases b <;> simp [State.agreesOn] at hb ⊢

theorem State.claimDropped_frame (s : State) (n : Octet) (gone : Bool) :
    Frame cascade s (s.claimDropped n gone) := by
  unfold State.claimDropped
  repeat' split
  · exact Frame.refl _ _
  · exact Frame.refl _ _
  · exact ((State.dismissClaim_frame _ _).mono rfl).trans (State.reevaluate_cascade _)
  · exact (((State.deleteClaim_frame _ _).mono rfl).trans
      ((State.mapTag_frame _ _ _ _).mono rfl)).trans (State.reevaluate_cascade _)
  · exact (State.requestAnnounce_frame _ _).mono rfl

theorem State.claimFrameLost_frame (s : State) (n : Octet) (gone : Bool) :
    Frame cascade s (s.claimFrameLost n gone) := by
  unfold State.claimFrameLost
  repeat' split
  · exact Frame.refl _ _
  · exact Frame.refl _ _
  · exact ((State.dismissClaim_frame _ _).mono rfl).trans (State.reevaluate_cascade _)

theorem State.frameDropped_frame (s : State) (f : CurrentFrame) :
    Frame outcomeCascade s (s.frameDropped f) := by
  have h : Frame outcomeCascade s
      ({ s with tx := { s.tx with lastFail := some f.source.failKind } } : State).oweSite := by
    intro b hb; cases b <;> simp [State.agreesOn, outcomeCascade, cascade] at hb ⊢
  unfold State.frameDropped
  simp only
  split
  · exact h.trans ((State.claimDropped_frame _ _ _).mono rfl)
  · exact h
  · exact h
  · exact Frame.ite h (h.trans
      (((State.serveBulk_frame _).trans (State.endAnswer_frame _ _)).mono rfl))
  · exact h

theorem State.frameDiscarded_frame (s : State) (f : CurrentFrame) :
    Frame cascade s (s.frameDiscarded f) := by
  unfold State.frameDiscarded
  split
  · exact State.claimFrameLost_frame _ _ _
  all_goals exact Frame.refl _ _

/-- A collision unmarks the echo of the frame being received, and does what the frame's outcome does. -/
theorem State.collide_frame (s : State) (f : CurrentFrame) :
    Frame outcomeCascade s.breakEcho (s.collide f) := by
  have h : Frame outcomeCascade s.breakEcho (s.breakEcho.withCurrent none) := by
    intro b hb
    cases b <;> simp [State.agreesOn, outcomeCascade, cascade, State.breakEcho] at hb ⊢
  refine Frame.ite (h.trans (State.frameDropped_frame _ _))
    (Frame.ite (h.trans ((State.frameDiscarded_frame _ _).mono rfl)) ?_)
  intro b hb; cases b <;> simp [State.agreesOn, outcomeCascade, cascade, State.breakEcho] at hb ⊢

/-- Comparing an octet moves the frame being sent on, or is a collision. -/
theorem State.compareOctet_cases (s : State) (agrees : Octet → Bool) :
    Frame [.tx] s (s.compareOctet agrees)
      ∨ Frame outcomeCascade s.breakEcho (s.compareOctet agrees) := by
  unfold State.compareOctet
  repeat' split
  · exact .inl (Frame.refl _ _)
  · exact .inl (Frame.refl _ _)
  · left; intro b hb; cases b <;> simp [State.agreesOn] at hb ⊢
  · exact .inr (State.collide_frame _ _)

/-- Comparing an octet leaves the receiver as it was, but for the echo mark of the frame being received,
which a collision clears. -/
theorem State.compareOctet_rx (s : State) (agrees : Octet → Bool) :
    (s.compareOctet agrees).rx = s.rx
      ∨ (s.compareOctet agrees).rx = { s.rx with phase := s.rx.phase.loseEcho } :=
  (s.compareOctet_cases agrees).imp (· .rx (by decide)) (· .rx (by decide))

theorem State.compareOctet_frame (s : State) (agrees : Octet → Bool) :
    Frame attemptCascade s (s.compareOctet agrees) := by
  rcases s.compareOctet_cases agrees with h | h
  · exact h.mono rfl
  · refine Frame.trans ?_ (h.mono rfl)
    intro b hb
    cases b <;> simp [State.agreesOn, attemptCascade, outcomeCascade, cascade, State.breakEcho] at hb ⊢

/-- A claim that lapses changes its mark and what the stop cause touches. -/
theorem State.lapseIfDue_cascade (s : State) (n : Octet) : Frame cascade s (s.lapseIfDue n) := by
  refine Frame.ite (Frame.trans ?_ (State.judgeLapse_cascade _)) (Frame.refl _ _)
  intro b hb; cases b <;> simp [State.agreesOn, cascade] at hb ⊢

end Sys2Proof.Machine
end

