-- ==== Sys2Proof/Laws/Ops.lean ====
section
/-! SUPPORT. What the shared operations do, said once: requests taken, lost and refused; the course map's
reads after writes and its key order; the cases of a head evaluation; a cause that joins or leaves. -/

namespace Sys2Proof.Machine

/-! ### Requests -/

/-- A request the port takes: its checks and effect, and its answer. -/
theorem State.onRequest_ready {s : State} {r : Instr} {k : RequestKind} {run : State → Reply}
    (h : s.readyFor r) :
    s.onRequest r k run
      = .next
        ((run (s.taken r)).state.produce k.code (run (s.taken r)).code (run (s.taken r)).content) := by
  simp [State.onRequest, State.answerWith, h.1, h.2]

/-- A request that meets a busy port is lost. -/
theorem State.onRequest_lost {s : State} {r : Instr} {k : RequestKind} {run : State → Reply}
    (h : s.inRestart = false) (p : s.port.takes r = false) :
    s.onRequest r k run = .next s.loseRequest := by
  simp [State.onRequest, h, p]

/-- No request is taken in a restart. -/
theorem State.onRequest_restart {s : State} {r : Instr} {k : RequestKind} {run : State → Reply}
    (h : s.inRestart = true) : s.onRequest r k run = .next s := by
  simp [State.onRequest, h]

/-- Producing an answer leaves everything but the port. -/
theorem State.produce_frame (s : State) (k : Octet) (c : AnswerCode) (x : AnswerContent) :
    Frame [.port] s (s.produce k c x) := by
  intro b hb; cases b <;> first | rfl | exact absurd (by decide) hb

/-- Taking a request leaves everything but the port. -/
theorem State.taken_frame (s : State) (r : Instr) : Frame [.port] s (s.taken r) := by
  intro b hb; cases b <;> first | rfl | exact absurd (by decide) hb

/-! ### The course map -/

theorem Slot.before_irrefl (a : Slot) : a.before a = false := by simp [Slot.before]

theorem Slot.before_trans {a b c : Slot} (h : a.before b = true) (k : b.before c = true) :
    a.before c = true := by
  simp only [Slot.before, Bool.or_eq_true, Bool.and_eq_true, decide_eq_true_eq, beq_iff_eq] at *
  omega

/-- Two slots are in order one way or the other, or are one slot. -/
theorem Slot.before_total (a b : Slot) : a.before b = true ∨ a = b ∨ b.before a = true := by
  rcases a with ⟨w, c, p⟩
  rcases b with ⟨v, d, q⟩
  simp only [Slot.before, Bool.or_eq_true, Bool.and_eq_true, decide_eq_true_eq, beq_iff_eq,
    Slot.mk.injEq]
  omega

/-- A record inserted is what its slot reads. -/
theorem findRecord_insertRecord_self (r : SlotRecord) (l : List SlotRecord) :
    findRecord (insertRecord r l) r.slot = some r := by
  induction l with
  | nil => simp [insertRecord, findRecord]
  | cons x xs ih =>
    unfold insertRecord
    split
    · simp [findRecord]
    · split
      · simp [findRecord]
      · rename_i h _
        unfold findRecord at *
        rw [List.find?_cons, show (x.slot == r.slot) = false by simpa using h]
        exact ih

/-- Every other slot reads as before. -/
theorem findRecord_insertRecord_other {r : SlotRecord} {slot : Slot} (h : slot ≠ r.slot)
    (l : List SlotRecord) : findRecord (insertRecord r l) slot = findRecord l slot := by
  have hr : (r.slot == slot) = false := by simpa using Ne.symm h
  induction l with
  | nil => simp [insertRecord, findRecord, hr]
  | cons x xs ih =>
    unfold insertRecord
    split
    · rename_i e
      simp only [findRecord, List.find?_cons, hr, show (x.slot == slot) = false by rw [e]; exact hr]
    · split
      · simp only [findRecord, List.find?_cons, hr]
      · unfold findRecord at *
        rw [List.find?_cons, List.find?_cons, ih]

/-- What an insert leaves in the list. -/
theorem mem_insertRecord {r x : SlotRecord} {l : List SlotRecord} (h : x ∈ insertRecord r l) :
    x = r ∨ x ∈ l := by
  induction l with
  | nil => exact Or.inl (by simpa [insertRecord] using h)
  | cons y ys ih =>
    unfold insertRecord at h
    split at h
    · rcases List.mem_cons.mp h with h | h
      · exact .inl h
      · exact .inr (List.mem_cons_of_mem _ h)
    · split at h
      · rcases List.mem_cons.mp h with h | h
        · exact .inl h
        · exact .inr h
      · rcases List.mem_cons.mp h with h | h
        · exact .inr (h ▸ List.mem_cons_self)
        · exact (ih h).imp id (List.mem_cons_of_mem _)

/-- An insert keeps key order. -/
theorem insertRecord_pairwise (r : SlotRecord) {l : List SlotRecord}
    (h : l.Pairwise fun a b => a.slot.before b.slot = true) :
    (insertRecord r l).Pairwise fun a b => a.slot.before b.slot = true := by
  induction l with
  | nil => simp [insertRecord]
  | cons x xs ih =>
    obtain ⟨hx, hxs⟩ := List.pairwise_cons.mp h
    unfold insertRecord
    split
    · rename_i e
      exact List.pairwise_cons.mpr ⟨fun b hb => e ▸ hx b hb, hxs⟩
    · split
      · rename_i lt
        refine List.pairwise_cons.mpr ⟨fun b hb => ?_, h⟩
        rcases List.mem_cons.mp hb with rfl | hb
        · exact lt
        · exact Slot.before_trans lt (hx b hb)
      · rename_i ne nlt
        refine List.pairwise_cons.mpr ⟨fun b hb => ?_, ih hxs⟩
        rcases mem_insertRecord hb with rfl | hb
        · rcases Slot.before_total x.slot b.slot with t | t | t
          · exact t
          · exact absurd t ne
          · exact absurd t nlt
        · exact hx b hb

/-- In key order, a record of the list is what its slot reads. -/
theorem findRecord_of_mem {r : SlotRecord} {l : List SlotRecord}
    (h : l.Pairwise fun a b => a.slot.before b.slot = true) (m : r ∈ l) :
    findRecord l r.slot = some r := by
  induction l with
  | nil => exact absurd m List.not_mem_nil
  | cons x xs ih =>
    obtain ⟨hx, hxs⟩ := List.pairwise_cons.mp h
    rcases List.mem_cons.mp m with rfl | m
    · simp [findRecord]
    · have ne : (x.slot == r.slot) = false := by
        have := hx r m
        by_contra e
        rw [Bool.not_eq_false, beq_iff_eq] at e
        rw [e, Slot.before_irrefl] at this
        exact absurd this (by decide)
      unfold findRecord at *
      rw [List.find?_cons, ne]
      exact ih hxs m

/-- A record found is in the list, at its slot. -/
theorem mem_of_findRecord {r : SlotRecord} {slot : Slot} {l : List SlotRecord}
    (h : findRecord l slot = some r) : r ∈ l ∧ r.slot = slot :=
  ⟨List.mem_of_find?_eq_some h, by simpa using List.find?_some h⟩

/-! ### Evaluating the head -/

/-- A property that each outcome of a head evaluation keeps is kept by all of them in turn. -/
theorem State.evalHeads_keeps {P : State → Prop}
    (fails : ∀ s i p r, s.admission.queue[i]? = some p → p.state.waits = true →
      s.judgeHead p = .fail r → P s → P (s.mapPlacement i fun p => p.fail r))
    (supports : ∀ s i p slot, s.admission.queue[i]? = some p → p.state.waits = true →
      s.judgeHead p = .support slot → P s →
        P (s.mapPlacement i fun p => p.waitSupport slot s.supportDue))
    (waits : ∀ s i p r station, s.admission.queue[i]? = some p → p.state.waits = true →
      s.judgeHead p = .wait r station → P s → P (s.mapPlacement i fun p => p.waitCells r station))
    (announces : ∀ s i p, s.admission.queue[i]? = some p → p.state.waits = true →
      s.judgeHead p = .announce → P s → P (s.announceHead i p).refreshContested)
    (k : Nat) (s : State) (h : P s) : P (State.evalHeads k s) := by
  induction k generalizing s with
  | zero => exact h
  | succ k ih =>
    unfold State.evalHeads
    split
    · exact h
    · rename_i i hi
      split
      · exact h
      · rename_i p hp
        have hw : p.state.waits = true := by
          obtain ⟨hlt, hx, -⟩ := List.findIdx?_eq_some_iff_getElem.mp hi
          rw [List.getElem?_eq_getElem hlt, Option.some.injEq] at hp
          exact hp ▸ hx
        split
        · exact ih _ (fails s i p _ hp hw (by assumption) h)
        · exact supports s i p _ hp hw (by assumption) h
        · exact waits s i p _ _ hp hw (by assumption) h
        · exact announces s i p hp hw (by assumption) h

/-- A placement changed at its place in the queue. -/
theorem State.mapPlacement_split {s : State} {before after : List Placement} {p : Placement}
    (h : s.admission.queue = before ++ p :: after) (f : Placement → Placement) :
    s.mapPlacement before.length f = s.withQueue (before ++ p.changedTo (f p) :: after) := by
  have modify : ∀ (l : List Placement) (g : Placement → Placement),
      (l ++ p :: after).modify l.length g = l ++ g p :: after := by
    intro l g
    induction l with
    | nil => rfl
    | cons x xs ih => simp [List.modify_succ_cons, ih]
  show State.withQueue _ _ = _
  rw [h, modify]

/-- The head is the first waiting placement. -/
theorem State.headIndex_eq {s : State} {i : Nat} :
    s.headIndex = some i ↔
      ∃ before p after, s.admission.queue = before ++ p :: after ∧ before.length = i
        ∧ p.state.waits = true ∧ ∀ q ∈ before, q.state.waits = false := by
  constructor
  · intro h
    obtain ⟨hlt, hx, hb⟩ := List.findIdx?_eq_some_iff_getElem.mp h
    refine ⟨s.admission.queue.take i, s.admission.queue[i], s.admission.queue.drop (i + 1), by simp,
      by simp; omega, hx, fun q hq => ?_⟩
    obtain ⟨j, hj, rfl⟩ := List.mem_iff_getElem.mp hq
    simp only [List.length_take, List.getElem_take] at hj ⊢
    simpa using hb j (by omega)
  · rintro ⟨before, p, after, h, rfl, hp, hb⟩
    unfold State.headIndex
    rw [h, List.findIdx?_append, List.findIdx?_eq_none_iff.mpr (by simpa using hb)]
    simp [List.findIdx?_cons, hp]

/-- Evaluations end: one more than there are waiting placements changes nothing. -/
theorem State.evalHeads_succ (k : Nat) (s : State)
    (h : s.admission.queue.countP (fun p => p.state.waits) ≤ k) :
    State.evalHeads k s = State.evalHeads (k + 1) s := by
  induction k generalizing s with
  | zero =>
    have : s.headIndex = none := List.findIdx?_eq_none_iff.mpr fun p hp => by
      simpa using List.countP_eq_zero.mp (Nat.le_zero.mp h) p hp
    rw [State.evalHeads, State.evalHeads, this]
  | succ k ih =>
    rw [State.evalHeads, State.evalHeads]
    cases hi : s.headIndex with
    | none => rfl
    | some i =>
      obtain ⟨before, p, after, hq, rfl, hp, -⟩ := State.headIndex_eq.mp hi
      have hg : s.admission.queue[before.length]? = some p := by rw [hq]; simp
      simp only [hg]
      cases s.judgeHead p with
      | support _ => rfl
      | wait _ _ => rfl
      | announce => rfl
      | fail r =>
        refine ih _ ?_
        rw [State.mapPlacement_split hq]
        show (before ++ p.changedTo (p.fail r) :: after).countP _ ≤ k
        have failed : (p.changedTo (p.fail r)).state.waits = false := rfl
        rw [hq] at h
        simp only [List.countP_append, List.countP_cons, hp, failed] at h ⊢
        simp at h ⊢
        omega

/-- What one evaluation of an open queue's head does, by its verdict. -/
theorem State.evalHead_verdict {s : State} {before after : List Placement} {p : Placement}
    (openNow : s.admissionOpen = true) (hq : s.admission.queue = before ++ p :: after)
    (hb : ∀ q ∈ before, q.state.waits = false) (hp : p.state.waits = true) :
    s.evalHead =
      match s.judgeHead p with
      | .fail r => (s.mapPlacement before.length fun p => p.fail r).evalHead
      | .support slot => s.mapPlacement before.length fun p => p.waitSupport slot s.supportDue
      | .wait r station => s.mapPlacement before.length fun p => p.waitCells r station
      | .announce => (s.announceHead before.length p).refreshContested := by
  have hl : s.admission.queue.length = before.length + after.length + 1 := by
    rw [hq]; simp; omega
  have hi : s.headIndex = some before.length :=
    State.headIndex_eq.mpr ⟨before, p, after, hq, rfl, hp, hb⟩
  have hg : s.admission.queue[before.length]? = some p := by rw [hq]; simp
  unfold State.evalHead
  rw [if_pos openNow, hl, State.evalHeads]
  simp only [hi, hg]
  cases s.judgeHead p with
  | support _ => rfl
  | wait _ _ => rfl
  | announce => rfl
  | fail r =>
    have failed : (p.changedTo (p.fail r)).state.waits = false := rfl
    have stays : (s.mapPlacement before.length fun p => p.fail r).admissionOpen = true := by
      rw [State.mapPlacement_split hq]
      unfold State.admissionOpen at openNow ⊢
      rw [hq] at openNow
      show (!(before ++ p.changedTo (p.fail r) :: after).any _ && _) = true
      have : (p.changedTo (p.fail r)).state.closes = false := rfl
      simp only [List.any_append, List.any_cons, this, Bool.and_eq_true, Bool.not_eq_true',
        Bool.or_eq_false_iff] at openNow ⊢
      exact ⟨⟨openNow.1.1, trivial, openNow.1.2.2⟩, openNow.2⟩
    simp only
    rw [if_pos stays, State.mapPlacement_split hq]
    show State.evalHeads _ _ = State.evalHeads (before ++ p.changedTo (p.fail r) :: after).length _
    have : (before ++ p.changedTo (p.fail r) :: after).length = before.length + after.length + 1 := by
      simp; omega
    rw [this]
    refine State.evalHeads_succ _ _ ?_
    show (before ++ p.changedTo (p.fail r) :: after).countP _ ≤ _
    have b := List.countP_le_length (p := fun p : Placement => p.state.waits) (l := before)
    have a := List.countP_le_length (p := fun p : Placement => p.state.waits) (l := after)
    rw [List.countP_append, List.countP_cons, failed]
    simp
    omega

/-! ### Causes -/

/-- After a cause has joined, it is present, the latch is set, and every other cause stands as it was. -/
theorem StopControl.join_has (t : StopControl) (c x : Cause) :
    (t.join c).latch = true ∧ (t.join c).causes.has x = (x == c || t.causes.has x) := by
  refine ⟨rfl, ?_⟩
  cases c <;> cases x <;> rfl

/-- A set with a cause assigned holds that cause as assigned, and every other as it was. -/
theorem CauseSet.has_assign (cs : CauseSet) (c x : Cause) (present : Bool) :
    (cs.assign c present).has x = if x = c then present else cs.has x := by
  cases c <;> cases x <;> rfl

/-- The set is empty exactly when no cause is in it. -/
theorem CauseSet.isEmpty_iff (cs : CauseSet) : cs.isEmpty = true ↔ ∀ c, cs.has c = false := by
  constructor
  · intro h c
    simp only [CauseSet.isEmpty, Bool.not_eq_true', Bool.or_eq_false_iff] at h
    cases c <;> simp [CauseSet.has, h]
  · intro h
    have h1 := h .stability
    have h2 := h .claimConflict
    have h3 := h .claimLapse
    have h4 := h .stationClash
    have h5 := h .localStop
    have h6 := h .supplyLow
    simp only [CauseSet.has] at h1 h2 h3 h4 h5 h6
    simp [CauseSet.isEmpty, h1, h2, h3, h4, h5, h6]

end Sys2Proof.Machine
end

