-- ==== Sys2Proof/Tests/Slice0.lean ====
section
/-! SUPPORT. Tests whose expected results come from the spec's tables and worked cases, and for every
statement with hypotheses a state that meets them. -/

namespace Sys2Proof.Tests

open Sys2Proof Sys2Proof.Machine

-- One proof after another: each `decide +kernel` below would else hold a thread of its own.
set_option Elab.async false

/-! ### Small states -/

/-- The site values of the worked case of 01 section 1.3, station 4. -/
def cfg : SiteConfig :=
  { station := 4, bitRate := .kbit125, halfModule := 113, courseHeight := 75, cellEdge := 1000,
    refresh := 500, settle := 80 }

/-- The wall of 01 section 1.3. -/
def longWall : WallDef :=
  { bond := .running, length := 80, top := 20, cls := 0, x0 := 4200, y0 := 9100, z0 := 300,
    direction := .plusX }

/-- The wall of the retirement case of 01 section 1.7. -/
def shortWall : WallDef := { longWall with length := 4, top := 2 }

/-- A place of the wall plan with a definition. -/
def placeOf (d : WallDef) : WallPlace := { WallPlace.absent with definition := some d }

/-- CONFIGURED, wall 7 defined with threshold 216,000, its link running. -/
def configured : State :=
  { State.reset with
    site := { State.reset.site with state := .configured, config := some cfg }
    walls := State.reset.walls.set 7 (placeOf shortWall)
    cure :=
      { State.reset.cure with
        classes :=
          List.replicate 4
            { CureClass.initial with threshold := 216000, accum := 1000000, configured := true }
        tickDue := some 0 }
    monitor := { State.reset.monitor with scan := some 0, windowDue := some 0 }
    rx := { State.reset.rx with phase := .gapWait } }

/-- ONLINE and CALM with ARMSTOP released. -/
def online : State :=
  { configured with
    site := { configured.site with state := .online }
    monitor := { configured.monitor with state := .calm }
    stop :=
      { State.reset.stop with causes := .empty, latch := false, first := none, seen := [] } }

/-- A slot of wall 7. -/
def slot (course pos : Nat) : Slot := { wall := 7, course := course, pos := pos }

/-- A placement with tag 1 on slot (7, 0, 0). -/
def placed (st : PlacementState) : Placement :=
  { tag := 1, target := slot 0 0, cells := [292], limit := 40, state := st, reason := none,
    yields := 0, blocking := none, missing := none, overrun := false, reportOwed := false,
    supportDue := none, motion := .stopped, holdoff := none }

/-- Its own claim. -/
def claimed (st : ClaimState) (sent : Option LocalTime) : OwnClaim :=
  { number := 0, tag := 1, state := st, cells := [292], precedence := 4, lastSend := sent,
    refreshTaken := false, settleDue := none, decision := .notDue, announce := .nothing,
    abandoned := false, lapsed := false }

/-- ONLINE with this placement and this claim. -/
def busy (p : Placement) (c : OwnClaim) : State :=
  { online with
    admission := { online.admission with queue := [p] }
    claims := { online.claims with own := [c] } }

/-- A current frame from this record, reduced to its delimiter, none of it sent. -/
def frame (source : FrameSource) (phase : SendPhase) : CurrentFrame :=
  { source := source, octets := [0x96], sent := 0, collisions := 0, phase := phase
    lastAttempt := false }

/-- The same, all of it sent. -/
def whole (source : FrameSource) : CurrentFrame := { frame source .sending with sent := 1 }

/-- A state with this current frame. -/
def sending (s : State) (f : CurrentFrame) : State := { s with tx := { s.tx with current := some f } }

/-- A state with the receiver in this state. -/
def hearing (s : State) (phase : RxPhase) : State := { s with rx := { s.rx with phase := phase } }

/-- A frame of 80 octets being received, none of them yet. -/
def opened : OpenFrame := { length := 80, octets := [], echo := false }

/-- A peer's entry on the cell of `placed`. -/
def peer (st : ClaimState) : PeerEntry :=
  { station := 9, number := 3, state := st, precedence := 2, cells := [292], expiry := 0 }

/-- A SET-SITE with the values of `cfg`. -/
def siteFields : SiteFields :=
  { station := 4, bitRate := 1, halfModule := 113, courseHeight := 75, cellEdge := 1000,
    refresh := 500, settle := 80 }

/-- A SET-WALL with the values of `shortWall`. -/
def wallFields : WallFields :=
  { wall := 7, bond := 0, length := 4, top := 2, cls := 0, x0 := 4200, y0 := 9100, z0 := 300,
    direction := 0 }

/-- A PLACE of `placed`. -/
def placeFields : PlaceFields :=
  { tag := 1, wall := 7, course := 0, pos := 0, limit := 40, cells := [9 * 32 + 4] }

/-- A SET-LIMITS. -/
def limitFields : LimitFields :=
  { gustHaltOn := 0, gustHaltOff := 999, gustPauseOn := 140, gustPauseOff := 110, inclineOn := 40,
    inclineOff := 30, strainOn := 900, strainOff := 0, dwell := 61, windFilter := 8, factor := 100,
    lstopFilter := 200, supportLimit := 30, lagOn := 2048, lagOff := 2048 }

/-- A valid ring of four codes. -/
def ring (a b c d : Nat) : Machine.Ring := { a := some a, b := some b, c := some c, d := some d }

/-- The state that `exec` answers; the part answers no other outcome. -/
def after (c : Instr) (s : State) : State :=
  match exec c s with
  | .next t => t
  | .fault _ => s
  | .refused _ => s

/-! ### WellFormed refuses -/

theorem test_wf_place_too_long :
    Instr.wellFormed (.place { placeFields with cells := List.replicate 45 0 }) = false := by decide
theorem test_wf_place_longest :
    Instr.wellFormed (.place { placeFields with cells := List.replicate 44 0 }) = true := by decide
theorem test_wf_peer_station :
    Instr.wellFormed (.peerEntryExpiry 31 0) = false
      ∧ Instr.wellFormed (.peerEntryExpiry 0 0) = false := by decide
theorem test_wf_window_wall : Instr.wellFormed (.surveyWindowClose 16) = false := by decide
theorem test_wf_wind_samples :
    Instr.wellFormed (.windRisingEdge 0) = false ∧ Instr.wellFormed (.windFallingEdge 0) = false := by
  decide
theorem test_wf_lstop_samples : Instr.wellFormed (.lstopFilterChange true 0) = false := by decide
theorem test_wf_claim_cells :
    Notice.wellFormed (.claim 0 1 0 0 (List.replicate 36 0)) = false := by decide
theorem test_wf_laid_wall : Notice.wellFormed (.laid 16 0 []) = false := by decide
theorem test_wf_survey_wall : Notice.wellFormed (.survey 254) = false := by decide

/-! ### Words written out from R185 to R187 -/

theorem test_decode_set_site :
    decodeRequest [0x01, 4, 1, 0, 113, 0, 75, 0x03, 0xE8, 0x01, 0xF4, 0, 80]
      = some (.setSite siteFields) := by decide
theorem test_decode_set_cure :
    decodeRequest [0x03, 1, 0xFF, 0xD8, 0x00, 0x03, 0x4B, 0xC0]
      = some (.setCure 1 (BitVec.ofInt 16 (-40)) 216000) := by decide
theorem test_decode_place :
    decodeRequest [0x20, 1, 7, 0, 0, 0, 40, 1, 0x01, 0x24] = some (.place placeFields) := by decide
theorem test_decode_place_count_wrong :
    decodeRequest [0x20, 1, 7, 0, 0, 0, 40, 2, 0x01, 0x24] = none := by decide
theorem test_decode_bare :
    decodeRequest [0x30] = some .resume ∧ decodeRequest [0x30, 0] = none
      ∧ decodeRequest [0x12] = none := by decide
theorem test_decode_claim :
    decodeNotice 1 [5, 1, 0, 100, 0x05, 0xDC, 2, 0x01, 0x28, 0x01, 0x29]
      = some (.claim 5 1 100 1500 [296, 297]) := by decide
theorem test_decode_laid :
    decodeNotice 3 [7, 2, 1, 2, 0, 1, 0x00, 0x13, 0x88]
      = some (.laid 7 2 [{ course := 2, pos := 1, maturity := 5000 }]) := by decide
theorem test_decode_notice_kind :
    decodeNotice 5 [0] = none ∧ decodeNotice 4 [16] = none ∧ decodeNotice 4 [255] = some (.survey 255) := by
  decide
theorem test_crc_check :
    crc [0x31, 0x32, 0x33, 0x34, 0x35, 0x36, 0x37, 0x38, 0x39] = 0x29B1#16 := by decide +kernel
theorem test_table_word : decodeTableWord 8 1 = none := by decide
theorem test_fetch_word : State.reset.withFetchWord 8 1 = State.reset := by decide +kernel

/-! ### Worked cases -/

/-- 01 section 1.3: the seat cell of slot (3, 5, 17). -/
theorem test_seat_cell : longWall.seatCell cfg 5 17 = 296 := by decide
/-- 01 section 1.3: its support slots. -/
theorem test_supports : longWall.supports 5 17 = [16, 17] ∧ longWall.span 5 17 = (33, 35) := by decide
/-- 01 section 1.3: check 4 passes. -/
theorem test_grid : longWall.gridCheck 113 75 1000 = true := by decide
/-- 02 section 2.3: the table of R27. -/
theorem test_temperature :
    (ring 452 455 453 456).temperature = some 27
      ∧ (ring 1 1 2 1).temperature = some (-200)
      ∧ (ring 452 455 453 0).temperature = none := by decide
/-- 07 section 7.2: incline means. -/
theorem test_incline :
    (ring 538 541 540 542).mean.map deviation = some 28
      ∧ ((ring 477 479 478 480).push 600).mean.map deviation = some 3 := by
  decide
/-- 07 section 7.3: the table of R141. -/
theorem test_wind_speed :
    windSpeed 7 37 = 10 ∧ windSpeed 52 100 = 208 ∧ windSpeed 125 1000 = 999 := by decide
/-- R142: an off level is clamped after its on level. -/
theorem test_limits_clamped :
    (takenLimits limitFields).gustHaltOn = 1 ∧ (takenLimits limitFields).gustHaltOff = 1
      ∧ (takenLimits limitFields).strainOff = 1 ∧ (takenLimits limitFields).dwell = 60
      ∧ takenLagOff limitFields = 1792 := by decide
/-- R1: across the wrap of the count. -/
theorem test_reached_wraps :
    reached 5 0xFFFFFFFE = true ∧ reached 0xFFFFFFFE 5 = false := by decide

/-- The map of the retirement case after its first two rows. -/
def twoLaid : State :=
  { online with
    map :=
      { online.map with
        records :=
          [{ slot := slot 0 0, state := .wet 1000000, laidBy := 4, own := true, owed := true },
            { slot := slot 0 1, state := .set, laidBy := 12, own := false, owed := false }] }
    cure := { online.cure with classes := online.cure.classes.map fun c => { c with accum := 1216040 } } }

/-- 01 section 1.7: the sweep turns (7, 0, 0) SET, course 0 retires, the height is owed. -/
theorem test_retirement :
    twoLaid.sweep.map.records = [] ∧ (twoLaid.sweep.wall 7).solidHeight = 1
      ∧ (twoLaid.sweep.wall 7).heightOwed = true := by decide +kernel
/-- 01 section 1.7, last row: the height rises to 2 and the entry is inserted WET. -/
theorem test_raised_height :
    ((twoLaid.sweep.applyLaid 12 7 2 [{ course := 2, pos := 1, maturity := 5000 }]).wall 7).solidHeight = 2
      ∧ (twoLaid.sweep.applyLaid 12 7 2 [{ course := 2, pos := 1, maturity := 5000 }]).map.records
        = [{ slot := slot 2 1, state := .wet 1211040, laidBy := 12, own := false, owed := false }] := by
  decide +kernel
/-- R41, R48: a PLACE is answered OK and its head announces. -/
theorem test_place_announces :
    (after (.place placeFields) online).port.answer.map Answer.code = some .ok
      ∧ (after (.place placeFields) online).admission.queue.map Placement.state = [.announcing] := by
  decide +kernel
/-- R41, check 6: without its seat cell a PLACE is refused. -/
theorem test_place_cells_miss :
    (after (.place { placeFields with cells := [5] }) online).port.answer.map Answer.code
      = some .cellsMiss := by decide +kernel
/-- R62, R12: SEATED makes an own WET record and owes its announce. -/
theorem test_seated_inserts :
    (after (.seated 1) (busy (placed .firm) (claimed .firm (some 0)))).map.records
      = [{ slot := slot 0 0, state := .wet 1000000, laidBy := 4, own := true, owed := true }] := by
  decide +kernel
/-- R63: CLEAR queues the RELEASE. -/
theorem test_clear_releases :
    (after (.clear 1) (busy (placed .seated) (claimed .seated (some 0)))).tx.urgent = [.release 0] := by
  decide +kernel
/-- R144, R148, R151: losing the reference halts the platform and sets the latch. -/
theorem test_sref_halts :
    (after .srefLost online).monitor.state = .halted ∧ (after .srefLost online).stop.latch = true
      ∧ (after .srefLost online).stop.first = some (.cause .stability) := by decide +kernel
/-- R140: a rising edge is counted once, a falling edge not. -/
theorem test_wind_edges :
    (after (.windRisingEdge 3) (after (.windFallingEdge 1) configured)).monitor.windCount = 1
      ∧ (after (.windFallingEdge 3) (after (.windRisingEdge 1) configured)).monitor.windCount = 0 := by
  decide +kernel
/-- R183, R172: a cold start ends with every report owed. -/
theorem test_cold_start :
    after (.restartEnd { lstopLow := false, supplyBelowWarn := false, referencePresent := true })
        (after .powerOff (after (.restartBegin .supplyCut) configured))
      = State.reset := by decide +kernel
/-- R183: a warm restart keeps the configuration and the accumulators. -/
theorem test_warm_restart :
    (after (.restartEnd { lstopLow := false, supplyBelowWarn := false, referencePresent := true })
        (after (.restartBegin .resetPin) online)).site.state = .configured
      ∧ (after (.restartEnd { lstopLow := true, supplyBelowWarn := false, referencePresent := true })
        (after (.restartBegin .resetPin) online)).stop.seen = [.stability, .localStop] := by
  decide +kernel
/-- R74: the first send of a CLAIM starts its settle and makes the placement TENTATIVE. -/
theorem test_first_send :
    let s :=
      after .sendCompletion
        (sending (busy (placed .announcing) (claimed .tentative none)) (whole (.claim 0 false)))
    s.claims.own.map OwnClaim.settleDue = [some 80]
      ∧ s.admission.queue.map Placement.state = [.tentative] := by decide +kernel
/-- R107, R111: the tenth collision drops a RELEASE. -/
theorem test_tenth_collision :
    let s :=
      after .collision
        (sending online { frame (.release 3) .sending with collisions := 9 })
    s.tx.current = none ∧ s.tx.lastFail = some .release := by decide +kernel

/-- R107, R189: two frames begun together, claims 4 and 9: the station of claim 9 hears the other frame,
collides at its number and stores the frame that kept the line. -/
theorem test_contest :
    let s :=
      sending (hearing online .hunt)
        { frame (.release 9) .sending with octets := frameOctets [4, 2, 9] }
    (s.hears (frameOctets [9, 2, 4])).map (fun t => t.rx.frames.map StoredFrame.octets)
        = some [[9, 2, 4]]
      ∧ (s.hears (frameOctets [9, 2, 4])).map State.txen = some false
      ∧ (s.hears (frameOctets [4, 2, 9])).map (fun t => t.rx.frames.map StoredFrame.echo)
        = some [true] := by decide +kernel
/-- R161: past the frame's end SDO shifts out the fill octet 0. -/
theorem test_sdo_fill :
    (after .transferBegin State.reset).sdoOctet 1 = some 0x81
      ∧ (after .transferBegin State.reset).sdoOctet 8 = some 0
      ∧ State.reset.sdoOctet 0 = none := by decide +kernel

/-! ### Every statement's hypotheses are met: steps and the arm port -/

/-- The port with a request in its intake. -/
def taking (r : Instr) (s : State) : State := { s with port := { s.port with intake := some r } }

theorem witness_steps :
    { State.reset with pending := [.resume] }.pending = .resume :: []
      ∧ (taking .start State.reset).dueEvent = some .start ∧ (taking .start State.reset).pending = []
      ∧ State.reset.pending = [] ∧ State.reset.dueEvent = none ∧ State.reset.poweredOff = false := by
  decide +kernel

/-- No report owed, the answer slot and the intake free. -/
def quiet (s : State) : State :=
  { s with
    port :=
      { s.port with stopOwed := false, stabilityOwed := false, siteOwed := false, answer := none } }

/-- An answer. -/
def answered : Answer := { kind := 0x30, code := .ok, lost := false, content := .plain }

/-- ONLINE with the free port changed. -/
def ported (f : ArmPort → ArmPort) : State := { online with port := f (quiet online).port }

/-- The second of two placements owes its report. -/
def reporting : State :=
  { ported id with
    admission :=
      { online.admission with queue := [placed .done, { placed .queued with reportOwed := true }] } }

/-- A transfer of this item is in progress. -/
def transferring (item : OutItem) (f : List Octet) (s : State) : State :=
  { s with
    port := { (quiet s).port with selected := true, transfer := some { item := item, frame := f } } }

/-- In restart by the pin RESET. -/
def restarting (s : State) : State := after (.restartBegin .resetPin) s

theorem witness_transfer_begin :
    (ported fun p => { p with answer := some answered }).inRestart = false
      ∧ (ported fun p => { p with answer := some answered }).port.selected = false
      ∧ (ported fun p => { p with answer := some answered }).port.answer = some answered
      ∧ (ported fun p => { p with stopOwed := true }).port.answer = none
      ∧ (ported fun p => { p with stopOwed := true }).port.stopOwed = true
      ∧ (ported fun p => { p with stabilityOwed := true }).port.stopOwed = false
      ∧ (ported fun p => { p with stabilityOwed := true }).port.stabilityOwed = true
      ∧ reporting.port.stabilityOwed = false ∧ reporting.port.answer = none
      ∧ reporting.port.stopOwed = false
      ∧ reporting.admission.queue = [placed .done] ++ { placed .queued with reportOwed := true } :: []
      ∧ (∀ q ∈ [placed .done], q.reportOwed = false)
      ∧ (ported fun p => { p with siteOwed := true }).port.siteOwed = true
      ∧ (∀ q ∈ (ported fun p => { p with siteOwed := true }).admission.queue, q.reportOwed = false)
      ∧ (ported id).port.siteOwed = false := by decide +kernel

theorem witness_sdo :
    (transferring .stop [2, 0x81, 0] online).inRestart = false
      ∧ (transferring .stop [2, 0x81, 0] online).port.selected = true
      ∧ (transferring .stop [2, 0x81, 0] online).port.transfer
        = some { item := .stop, frame := [2, 0x81, 0] }
      ∧ ([2, 0x81, 0] : List Octet)[1]? = some 0x81 ∧ ([2, 0x81, 0] : List Octet).length ≤ 3
      ∧ (restarting online).inRestart = true ∧ online.port.selected = false := by decide +kernel

theorem witness_transfer_end :
    let s (item : OutItem) := transferring item [1, 0x83] online
    (∀ item ∈ [.answer, .placement 0 true, .placement 0 false, .stop, .stability, .site],
        (s item).inRestart = false ∧ (s item).port.selected = true
          ∧ (s item).port.transfer = some { item := item, frame := [1, 0x83] })
      ∧ ([0, 0] : List Octet) ≠ [] ∧ ([1, 0x83] : List Octet).length ≤ ([0, 0] : List Octet).length
      ∧ (([0, 0] : List Octet).headD 0).toNat + 1 ≤ ([0, 0] : List Octet).length
      ∧ ¬([1, 0x83] : List Octet).length ≤ ([0] : List Octet).length
      ∧ (transferring .null [0] online).port.transfer = some { item := .null, frame := [0] }
      ∧ ([0, 0] : List Octet).headD 0 = 0 ∧ ([] : List Octet).headD 0 = 0 := by decide +kernel

/-- A SET-CURE that lowers the threshold of class 1. -/
def lowering : Instr := .setCure 1 20 1000

theorem witness_transfer_request :
    let s := transferring .null [0] configured
    s.inRestart = false ∧ s.port.selected = true
      ∧ s.port.transfer = some { item := .null, frame := [0] }
      ∧ Instr.wellFormed .resume = true ∧ requestFrame .resume = some [1, 0x30]
      ∧ ([1, 0x30, 0] : List Octet) = [1, 0x30] ++ [0] ∧ s.port.intake = none ∧ s.port.answer = none
      ∧ s.walksFor .resume = false ∧ s.walksFor lowering = true ∧ lowering.wellFormed = true
      ∧ requestFrame lowering = some [8, 0x03, 1, 0, 20, 0, 0, 3, 0xE8]
      ∧ ({ s.port with intake := some .start } : ArmPort).intake.isSome = true
      ∧ 0 < (([1] : List Octet).headD 0).toNat
      ∧ ([1] : List Octet).length ≤ (([1] : List Octet).headD 0).toNat
      ∧ 96 < (([97] : List Octet).headD 0).toNat := by decide +kernel

/-- No request has the kind octet 0x12. -/
theorem witness_unknown_request :
    1 ≤ (([1, 0x12] : List Octet).headD 0).toNat ∧ (([1, 0x12] : List Octet).headD 0).toNat ≤ 96
      ∧ (([1, 0x12] : List Octet).headD 0).toNat < ([1, 0x12] : List Octet).length
      ∧ ∀ r, encodeRequest r ≠ some (([1, 0x12] : List Octet).tail.take 1) := by
  refine ⟨by decide, by decide, by decide, ?_⟩
  intro r h
  cases r <;> simp [encodeRequest, Instr.requestKind, RequestKind.code] at h

theorem witness_reads :
    (quiet online).readyFor (.readSlot 7 1 2) ∧ (quiet online).readyFor (.readSlot 16 0 0)
      ∧ (quiet online).readyFor (.readSlot 15 63 0) ∧ (quiet online).readyFor .readSite
      ∧ ((quiet online).wall 7).definition = some shortWall ∧ shortWall.inRange 1 2 = true
      ∧ shortWall.inRange 1 3 = false ∧ shortWall.inRange 3 0 = false
      ∧ ((quiet online).wall 15).definition = none := by
  unfold State.readyFor; decide +kernel

/-- ONLINE with one record of station 12, on the slot of `placed`. -/
def recorded (a : Adhesive) (own : Bool) : State :=
  { online with
    map :=
      { online.map with
        records := [{ slot := slot 0 0, state := a, laidBy := 12, own := own, owed := false }] } }

/-- The first course of wall 7 is retired. -/
def retired : State :=
  { online with walls := online.walls.modify 7 fun p => { p with solidHeight := 1 } }

theorem witness_slot_views :
    (slot 0 0).course < (retired.wall 7).solidHeight ∧ (online.wall 7).solidHeight ≤ (slot 0 0).course
      ∧ (retired.wall 7).solidHeight ≤ (slot 1 0).course ∧ online.recordAt (slot 0 0) = none
      ∧ (recorded .set false).recordAt (slot 0 0)
        = some { slot := slot 0 0, state := .set, laidBy := 12, own := false, owed := false }
      ∧ (recorded (.wet 0) true).recordAt (slot 0 0)
        = some { slot := slot 0 0, state := .wet 0, laidBy := 12, own := true, owed := false }
      ∧ (online.wall 7).definition = some shortWall := by decide +kernel

/-- R188: the lengths, kinds and fields of the frames shifted out. -/
theorem test_outgoing_frames :
    State.reset.stopReport = [7, 0x81, 3, 1, 0, 7, 1, 1]
      ∧ State.reset.siteReport = [12, 0x84, 0, 0, 0, 0, 0, 0, 0, 0, 0, 0, 0]
      ∧ State.reset.stabilityReport = [15, 0x82, 2, 1, 0, 0, 0, 0, 0, 0, 0, 0, 0, 0, 0, 0]
      ∧ ({ placed .waitSupport with missing := some (slot 2 258) } : Placement).report
        = [11, 0x83, 1, 1, 0, 0, 0, 2, 7, 2, 1, 2]
      ∧ ({ kind := 0x40, code := .ok, lost := true
           content := .slot ((recorded (.wet 0) true).slotView (slot 0 0)) } : Answer).frame
        = [11, 0x80, 0x40, 0, 1, 1, 0x0F, 0x42, 0x40, 12, 3, 0] := by decide +kernel

/-! ### Configuration, joining and leaving -/

theorem witness_set_site :
    (quiet State.reset).readyFor (.setSite siteFields) ∧ State.reset.site.state = .unconfigured
      ∧ (quiet configured).readyFor (.setSite siteFields) ∧ configured.site.state = .configured
      ∧ takenConfig siteFields = some cfg ∧ cfg.settle < cfg.refresh
      ∧ cfg.geometryDiffers configured.cfg = false ∧ cfg.bitRate = configured.cfg.bitRate
      ∧ ({ cfg with bitRate := .kbit500 } : SiteConfig).bitRate ≠ configured.cfg.bitRate
      ∧ ({ cfg with cellEdge := 2000 } : SiteConfig).geometryDiffers configured.cfg = true
      ∧ (quiet configured).wallsFit { cfg with cellEdge := 2000 } = true := by
  unfold State.readyFor; decide +kernel

theorem witness_bit_rate :
    configured.rx.phase = .gapWait ∧ (hearing configured (.length true)).rx.phase = .length true
      ∧ (hearing configured (.body opened)).rx.phase = .body opened
      ∧ (hearing configured (.check opened none)).rx.phase = .check opened none := by decide +kernel

theorem witness_set_wall :
    (quiet configured).readyFor (.setWall wallFields) ∧ configured.site.state = .configured
      ∧ takenDefinition wallFields = some shortWall
      ∧ shortWall.gridCheck configured.cfg.halfModule configured.cfg.courseHeight
        configured.cfg.cellEdge = true
      ∧ (configured.wall 7).definition.isSome = true
      ∧ (∀ r ∈ configured.map.records, r.slot.wall ≠ 7) ∧ (configured.wall 7).solidHeight = 0
      ∧ (configured.wall 8).definition = none
      ∧ (quiet configured).readyFor (.setWall { wallFields with wall := 8 }) := by
  unfold State.readyFor; decide +kernel

theorem witness_set_cure :
    (quiet configured).readyFor (.setCure 3 (BitVec.ofInt 16 (-80)) 1)
      ∧ configured.site.state.offline = true ∧ -80 ≤ (BitVec.ofInt 16 (-80)).toInt
      ∧ (BitVec.ofInt 16 80).toInt ≤ 80 ∧ 1 ≤ (1 : BitVec 32).toNat
      ∧ (1 : BitVec 32).toNat < (configured.cureClass 3).threshold
      ∧ (configured.cureClass 3).threshold ≤ (16777215 : BitVec 32).toNat := by
  unfold State.readyFor; decide +kernel

theorem witness_set_limits :
    (quiet configured).readyFor (.setLimits limitFields) ∧ configured.site.state.offline = true := by
  unfold State.readyFor; decide +kernel

/-- A wall too far along x for a grid of 250 mm cells. -/
def farWall : WallDef := { shortWall with x0 := 40000 }

/-- CONFIGURED with `farWall`. -/
def farSite : State := { configured with walls := State.reset.walls.set 7 (placeOf farWall) }

theorem witness_refused_configuration :
    (quiet online).readyFor (.setSite siteFields) ∧ online.site.state.offline = false
      ∧ (quiet configured).readyFor (.setSite { siteFields with bitRate := 4 })
      ∧ configured.site.state.offline = true ∧ (4 : Octet) ≠ 1 ∧ (4 : Octet) ≠ 2 ∧ (4 : Octet) ≠ 3
      ∧ (31 : Octet).toNat > 30
      ∧ (takenConfig { siteFields with refresh := 100, settle := 100 }).any
        (fun c => c.refresh ≤ c.settle) = true
      ∧ takenConfig { siteFields with cellEdge := 250 } = some { cfg with cellEdge := 250 }
      ∧ farSite.site.state = .configured
      ∧ ({ cfg with cellEdge := 250 } : SiteConfig).geometryDiffers farSite.cfg = true
      ∧ farSite.wallsFit { cfg with cellEdge := 250 } = false
      ∧ (quiet online).readyFor (.setWall wallFields) ∧ online.site.state ≠ .configured
      ∧ (quiet configured).readyFor (.setWall { wallFields with wall := 16 })
      ∧ takenDefinition wallFields = some shortWall
      ∧ ({ configured with walls := configured.walls.modify 7 fun p => { p with solidHeight := 1 } }
        : State).wall 7 = { placeOf shortWall with solidHeight := 1 }
      ∧ (configured.wall 8).definition = none
      ∧ takenDefinition { wallFields with wall := 8, x0 := BitVec.ofInt 32 (-1000000) }
        = some { shortWall with x0 := -1000000 }
      ∧ ({ shortWall with x0 := -1000000 } : WallDef).gridCheck cfg.halfModule cfg.courseHeight
        cfg.cellEdge = false
      ∧ (quiet online).readyFor (.setCure 0 0 1) ∧ (quiet configured).readyFor (.setCure 4 0 1)
      ∧ (quiet configured).readyFor (.setCure 0 81 1) ∧ (quiet configured).readyFor (.setCure 0 0 0)
      ∧ (quiet online).readyFor (.setLimits limitFields) := by
  unfold State.readyFor; decide +kernel

theorem witness_refused_joining :
    (quiet online).readyFor .start ∧ online.site.state ≠ .configured
      ∧ (quiet { configured with walls := State.reset.walls }).readyFor .start
      ∧ (∀ p ∈ ({ configured with walls := State.reset.walls } : State).walls, p.definition = none)
      ∧ placeOf shortWall ∈ ({ configured with cure := State.reset.cure } : State).walls
      ∧ (({ configured with cure := State.reset.cure } : State).cureClass shortWall.cls).configured
        = false
      ∧ (quiet configured).readyFor .stop ∧ configured.site.state.joined = false
      ∧ (quiet (busy (placed .firm) (claimed .firm none))).readyFor .stop
      ∧ (∃ p ∈ (busy (placed .firm) (claimed .firm none)).admission.queue,
        p.state = .firm ∨ p.state = .seated)
      ∧ (quiet configured).readyFor (.surveyRequest 7) ∧ online.site.state.joined = true
      ∧ (quiet online).readyFor (.surveyRequest 16) ∧ 15 < (16 : Octet).toNat
      ∧ (16 : Octet).toNat ≠ 255 ∧ (quiet online).readyFor (.surveyRequest 15)
      ∧ (online.wall 15).definition = none := by
  unfold State.readyFor; decide +kernel

theorem witness_start :
    (quiet configured).readyFor .start ∧ configured.site.state = .configured
      ∧ configured.complete = true := by
  unfold State.readyFor; decide +kernel

/-- ONLINE with a RELEASE waiting. -/
def releasing : State := { quiet online with tx := { online.tx with urgent := [.release 3] } }

theorem witness_stop :
    (quiet online).readyFor .stop ∧ online.site.state.joined = true
      ∧ (∀ p ∈ online.admission.queue, p.state ≠ .firm ∧ p.state ≠ .seated)
      ∧ (after .stop (quiet online)).site.state = .configured
      ∧ releasing.readyFor .stop ∧ (after .stop releasing).site.state = .leaving := by
  unfold State.readyFor; decide +kernel

/-- A TENTATIVE placement between two that are not announced. -/
def leaving : State :=
  { online with
    admission :=
      { online.admission with queue := [placed .done, placed .tentative, placed .queued] }
    claims := { online.claims with own := [claimed .tentative (some 0)] } }

/-- R64: STOP fails every placement that is not terminal and abandons the claim in flight. -/
theorem test_stop_fails_all :
    leaving.abandonAnnounced.failAll.admission.queue.map Placement.state = [.done, .failed, .failed]
      ∧ leaving.abandonAnnounced.failAll.admission.queue.map Placement.reportOwed
        = [false, true, true]
      ∧ leaving.abandonAnnounced.claims.own = [] ∧ leaving.abandonAnnounced.tx.urgent = [.release 0] := by
  decide +kernel

theorem witness_stop_abandons :
    leaving.admission.queue = [placed .done] ++ placed .tentative :: [placed .queued]
      ∧ (∀ q ∈ [placed .done], q.state ≠ .announcing ∧ q.state ≠ .tentative)
      ∧ (∀ q ∈ [placed .queued], q.state ≠ .announcing ∧ q.state ≠ .tentative)
      ∧ (∀ p ∈ online.admission.queue, p.state ≠ .announcing ∧ p.state ≠ .tentative) := by
  decide +kernel

/-- Within the hold of a START or a STOP. -/
def timed (st : SiteState) : State :=
  { online with
    site := { online.site with state := st, listenDue := some 0, leaveDue := some 0 } }

theorem witness_site_timers :
    (timed .listening).inRestart = false ∧ (timed .listening).site.state = .listening
      ∧ (timed .leaving).site.state = .leaving ∧ (timed .leaving).site.leaveDue = some 0
      ∧ reached (timed .leaving).now 0 = true ∧ (timed .leaving).tx.current = none
      ∧ (timed .leaving).tx.urgent = [] ∧ (timed .leaving).tx.urgentCurrent = false
      ∧ (sending (timed .leaving) (frame (.release 0) .sending)).tx.current
        = some (frame (.release 0) .sending)
      ∧ (frame (.release 0) .sending).source.urgent = true
      ∧ (frame (.release 0) .waiting).phase ≠ .sending
      ∧ (frame (.ownAnnounce 7 []) .sending).source.urgent = false := by decide +kernel

/-! ### Placements and claims -/

theorem witness_place :
    (quiet online).readyFor (.place placeFields) ∧ online.site.state.joined = true
      ∧ online.admission.queue.length < 8
      ∧ (∀ p ∈ online.admission.queue,
        p.state.terminal = true ∨ p.tag ≠ placeFields.tag ∧ p.target ≠ placeTarget placeFields)
      ∧ (online.wall placeFields.wall.toNat).definition = some shortWall
      ∧ shortWall.inRange 0 0 = true ∧ goodCells placeFields.tag (placeCells placeFields) = true
      ∧ shortWall.seatCell online.cfg 0 0 ∈ placeCells placeFields
      ∧ online.readSlot (placeTarget placeFields) = .vacant := by
  unfold State.readyFor; decide +kernel

/-- ONLINE with eight placements. -/
def crowded : State :=
  { online with admission := { online.admission with queue := List.replicate 8 (placed .done) } }

/-- ONLINE with the slot of `placed` SET. -/
def taken : State :=
  { online with
    map :=
      { online.map with
        records := [{ slot := slot 0 0, state := .set, laidBy := 12, own := false, owed := false }] } }

/-- ONLINE with a QUEUED placement of another tag on the slot of `placed`. -/
def doubled : State :=
  { online with admission := { online.admission with queue := [{ placed .queued with tag := 2 }] } }

theorem witness_place_refused :
    (quiet configured).readyFor (.place placeFields) ∧ configured.site.state.joined = false
      ∧ (quiet crowded).readyFor (.place placeFields) ∧ crowded.site.state.joined = true
      ∧ 8 ≤ crowded.admission.queue.length
      ∧ (quiet (busy (placed .firm) (claimed .firm none))).readyFor (.place placeFields)
      ∧ (quiet doubled).readyFor (.place placeFields)
      ∧ (∃ p ∈ (busy (placed .firm) (claimed .firm none)).admission.queue,
        p.tag = placeFields.tag ∧ p.state.terminal = false)
      ∧ (∀ p ∈ doubled.admission.queue, p.tag = placeFields.tag → p.state.terminal = true)
      ∧ (online.wall 8).definition = none ∧ (online.wall 7).definition = some shortWall
      ∧ shortWall.inRange 3 0 = false ∧ shortWall.inRange 0 0 = true
      ∧ goodCells 1 [] = false ∧ goodCells 0 [5] = false ∧ goodCells 1 [5, 5] = false
      ∧ goodCells 1 [16384] = false ∧ goodCells 1 [16383] = true
      ∧ shortWall.seatCell online.cfg 0 0 ∉ ([5] : List Nat)
      ∧ shortWall.seatCell online.cfg 0 0 ∈ placeCells placeFields
      ∧ taken.readSlot (placeTarget placeFields) ≠ .vacant ∧ (quiet taken).readyFor (.place placeFields)
      ∧ (∃ p ∈ doubled.admission.queue,
        p.target = placeTarget placeFields ∧ p.state.terminal = false) := by
  unfold State.readyFor; decide +kernel

/-- One placement in this state, its claim beside it, the port free. -/
def one (st : PlacementState) : State := quiet (busy (placed st) (claimed .firm (some 0)))

theorem witness_tags :
    (one .queued).readyFor (.withdraw 1) ∧ (one .queued).resolveTag 1 = some 0
      ∧ (one .queued).admission.queue[0]? = some (placed .queued)
      ∧ (one .tentative).resolveTag 1 = some 0 ∧ (one .failed).resolveTag 1 = some 0
      ∧ (one .firm).readyFor (.seated 1) ∧ (one .firm).resolveTag 1 = some 0
      ∧ (one .firm).claimOf 1 = some (claimed .firm (some 0))
      ∧ (one .queued).readyFor (.seated 1)
      ∧ (∀ p ∈ (one .queued).admission.queue, p.tag ≠ 2) ∧ (one .queued).readyFor (.withdraw 2)
      ∧ (one .queued).readyFor (.seated 2) ∧ (one .queued).readyFor (.clear 2) := by
  unfold State.readyFor; decide +kernel

/-- ONLINE with these placements, no claim, the port free. -/
def headed (s : State) (queue : List Placement) : State :=
  { s with
    admission := { s.admission with queue := queue }
    claims := { s.claims with own := [] } }

/-- R40: the record that is not terminal, else the oldest. -/
theorem test_tags_resolve :
    (headed online [placed .done, placed .queued]).resolveTag 1 = some 1
      ∧ (headed online [placed .done, placed .failed]).resolveTag 1 = some 0
      ∧ online.resolveTag 1 = none := by decide +kernel

theorem witness_reports_owed :
    (headed online [placed .queued]).admission.queue = [] ++ placed .queued :: []
      ∧ (placed .queued).state ≠ (placed .queued).withdraw.state
      ∧ ({ placed .queued with holdoff := some 0 } : Placement).shown = (placed .queued).shown := by
  decide +kernel

/-- A state with these peer entries. -/
def peered (s : State) (peers : List PeerEntry) : State :=
  { s with claims := { s.claims with peers := peers } }

/-- These placements after an evaluation of their head. -/
def evaluated (s : State) (queue : List Placement) : List Placement :=
  (headed s queue).evalHead.admission.queue

/-- R45, R46: a taken target or a gap flag fails the head and the next is evaluated, a support slot that is
not ready is waited for. -/
theorem test_head_fails_or_waits :
    (evaluated (recorded .set false) [placed .queued, { placed .queued with target := slot 0 1 }]).map
        Placement.state = [.failed, .announcing]
      ∧ (evaluated (recorded .set false) [placed .queued]).map Placement.reason
        = [some (.fail .slotTaken)]
      ∧ (evaluated { online with walls := online.walls.modify 7 fun p => { p with gap := true } }
          [placed .waitCells]).map Placement.reason = [some (.fail .viewGap)]
      ∧ (evaluated online [{ placed .queued with target := slot 1 0 }]).map Placement.missing
        = [some (slot 0 0)] := by decide +kernel

/-- ONLINE with so many records of another wall. -/
def mapped (n : Nat) : State :=
  { online with
    map :=
      { online.map with
        records :=
          (List.range n).map fun i =>
            { slot := { wall := 6, course := 0, pos := i }, state := .set, laidBy := 12, own := false
              owed := false } } }

/-- R48, R49: each gate in turn, the ones before it holding; CELLS_HELD names the lowest station. -/
theorem test_head_gates :
    ([configured, { online with monitor := configured.monitor },
        { online with stop := configured.stop }, { online with rx := { online.rx with lag := true } },
        { online with notice := { online.notice with doubtDue := some 9 } }, mapped 1024,
        peered online [{ peer .firm with station := 12 }, peer .tentative],
        { online with tx := { online.tx with urgent := List.replicate 8 (.release 3) } }, online].map
          fun s => (evaluated s [placed .queued]).map Placement.reason)
        = [[some (.wait .notOnline)], [some (.wait .notCalm)], [some (.wait .stopped)],
          [some (.wait .viewLag)], [some (.wait .viewDoubt)], [some (.wait .mapFull)],
          [some (.wait .cellsHeld)], [some (.wait .linkBusy)], [none]]
      ∧ (evaluated (peered online [{ peer .firm with station := 12 }, peer .tentative])
          [placed .queued]).map Placement.blocking = [some 9]
      ∧ (evaluated online [{ placed .waitCells with holdoff := some 9 }]).map Placement.reason
        = [some (.wait .linkFail)]
      ∧ (evaluated online [placed .queued]).map Placement.state = [.announcing] := by decide +kernel

theorem witness_head_evaluation :
    (∃ p ∈ (one .firm).admission.queue,
        p.state = .announcing ∨ p.state = .tentative ∨ p.state = .firm)
      ∧ 2 ≤ [claimed .firm none, claimed .seated none].length
      ∧ (∀ q ∈ (headed online [placed .done, placed .queued]).admission.queue,
        ¬(q.state = .announcing ∨ q.state = .tentative ∨ q.state = .firm))
      ∧ (headed online []).claims.own.length < 2
      ∧ (headed online [placed .done, placed .queued]).admission.queue
        = [placed .done] ++ placed .queued :: []
      ∧ (∀ q ∈ [placed .done],
        ¬(q.state = .queued ∨ q.state = .waitSupport ∨ q.state = .waitCells)) := by decide +kernel

theorem witness_own_insert :
    online.readSlot (slot 0 0) = .vacant ∧ retired.readSlot (slot 0 0) = .retired
      ∧ (recorded .set true).readSlot (slot 0 0) ≠ .retired
      ∧ (recorded .set true).recordAt (slot 0 0)
        = some { slot := slot 0 0, state := .set, laidBy := 12, own := true, owed := false }
      ∧ (recorded .set false).recordAt (slot 0 0)
        = some { slot := slot 0 0, state := .set, laidBy := 12, own := false, owed := false }
      ∧ (recorded (.wet 0) false).recordAt (slot 0 0)
        = some { slot := slot 0 0, state := .wet 0, laidBy := 12, own := false, owed := false } := by
  decide +kernel

/-- ONLINE with this placement and a claim for it. -/
def timing (p : Placement) : State := busy p (claimed .firm (some 0))

theorem witness_clear :
    (∀ st ∈ [.seated, .firm, .queued],
        (one st).readyFor (.clear 1) ∧ (one st).resolveTag 1 = some 0
          ∧ (one st).admission.queue[0]? = some (placed st)
          ∧ (one st).claimOf 1 = some (claimed .firm (some 0)))
      ∧ (quiet (timing (placed .queued))).readyFor (.clear 1)
      ∧ ({ quiet (timing (placed .done)) with claims := online.claims } : State).resolveTag 1 = some 0
      ∧ (one .firm).tx.current = none
      ∧ (sending (one .firm) (frame (.claim 0 false) .waiting)).readyFor (.clear 1)
      ∧ (frame (.claim 0 false) .waiting).source = .claim 0 false
      ∧ (frame (.claim 0 false) .waiting).phase ≠ .sending
      ∧ (frame (.claim 0 false) .sending).phase = .sending := by
  unfold State.readyFor; decide +kernel

theorem witness_placement_timers :
    (timing { placed .waitSupport with supportDue := some 0 }).inRestart = false
      ∧ (timing { placed .waitSupport with supportDue := some 0 }).headIndex = some 0
      ∧ (timing { placed .waitSupport with supportDue := some 0 }).admission.queue[0]?
        = some { placed .waitSupport with supportDue := some 0 }
      ∧ (timing { placed .firm with motion := .running 0 }).admission.queue
        = [] ++ { placed .firm with motion := .running 0 } :: []
      ∧ (timing { placed .waitCells with holdoff := some 0 }).admission.queue
        = [] ++ { placed .waitCells with holdoff := some 0 } :: []
      ∧ reached online.now 0 = true := by decide +kernel

/-- An open window of wall 7. -/
def windowed (drop gap : Bool) : State :=
  { online with
    walls := online.walls.modify 7 fun p =>
      { p with window := some { due := 0, dropMark := drop }, gap := gap } }

theorem witness_view_timers :
    ({ online with notice := { online.notice with doubtDue := some 0 } } : State).inRestart = false
      ∧ ({ online with notice := { online.notice with doubtDue := some 0 } } : State).notice.doubtDue
        = some 0
      ∧ reached online.now 0 = true ∧ 7 < (windowed true true).walls.length
      ∧ ((windowed true true).wall 7).window = some { due := 0, dropMark := true }
      ∧ ((windowed false true).wall 7).window = some { due := 0, dropMark := false }
      ∧ ((windowed false true).wall 7).gap = true ∧ ((windowed false false).wall 7).gap = false := by
  decide +kernel

/-- A claim that settles now. -/
def settled (d : Decision) : OwnClaim :=
  { claimed .tentative (some 0) with settleDue := some 0, decision := d }

/-- ONLINE with a decision due. -/
def deciding : State := busy (placed .tentative) (settled .due)

/-- A SURVEY of all walls from station 9, in the store. -/
def heard : StoredFrame := { echo := false, arrival := 0, octets := [9, 4, 255] }

/-- A state with these complete frames in the store. -/
def stored (s : State) (frames : List StoredFrame) : State :=
  { s with rx := { s.rx with frames := frames } }

theorem witness_settled :
    (busy (placed .tentative) (settled .notDue)).inRestart = false
      ∧ (busy (placed .tentative) (settled .notDue)).claims.own = [] ++ settled .notDue :: []
      ∧ (settled .notDue).state = .tentative ∧ (settled .notDue).abandoned = false
      ∧ (settled .notDue).settleDue = some 0 ∧ reached 0 0 = true
      ∧ (busy (placed .tentative) (settled .notDue)).rx.frames = []
      ∧ (stored (busy (placed .tentative) (settled .notDue)) [heard, heard]).rx.frames
        = [heard] ++ [heard]
      ∧ (settled .due).decision = .due
      ∧ online.blockingStation [292] 4 = none ∧ online.monitor.state = .calm
      ∧ online.stopClear = true ∧ online.notice.doubtDue = none
      ∧ configured.monitor.state ≠ .calm
      ∧ (after .firmDecision deciding).claims.own.map OwnClaim.lapsed = [false]
      ∧ (after .firmDecision { deciding with now := 1000 }).claims.own.map OwnClaim.lapsed = [true] := by
  decide +kernel

theorem witness_yields :
    (∀ p ∈ online.admission.queue, p.state ≠ .announcing ∧ p.state ≠ .tentative)
      ∧ deciding.admission.queue = [] ++ placed .tentative :: []
      ∧ (placed .tentative).state = .tentative ∧ online.claimOf 1 = none
      ∧ deciding.claimOf 1 = some (settled .due) ∧ deciding.tx.current = none
      ∧ (sending deciding (frame (.claim 0 false) .waiting)).tx.current
        = some (frame (.claim 0 false) .waiting)
      ∧ (frame (.claim 0 false) .waiting).phase ≠ .sending
      ∧ (frame (.claim 0 false) .sending).phase = .sending
      ∧ (deciding.claims.own.map OwnClaim.number).Nodup ∧ deciding.site.leaveExpired = false
      ∧ ({ deciding with site := { deciding.site with leaveExpired := true } } : State).site.leaveExpired
        = true
      ∧ online.ownClaim 0 = none ∧ deciding.ownClaim 0 = some (settled .due)
      ∧ (settled .due).announce = .nothing
      ∧ ({ settled .due with announce := .owed } : OwnClaim).announce ≠ .nothing
      ∧ deciding.serveOwed.site.leaveExpired = false ∧ deciding.serveOwed.tx.urgent.length < 8
      ∧ 8 ≤ ({ deciding with tx := { deciding.tx with urgent := List.replicate 8 (.release 3) } }
        : State).serveOwed.tx.urgent.length := by decide +kernel

/-- An own FIRM claim and a FIRM entry of station 9 share a cell; nothing tells of it yet. -/
def conflicting : State := peered (busy (placed .firm) (claimed .firm (some 0))) [peer .firm]

/-- The causes with CLAIM_CONFLICT. -/
def conflictCauses (station : Nat) : StopControl :=
  { online.stop with
    causes := { CauseSet.empty with claimConflict := true }, latch := true
    first := some (.cause .claimConflict), seen := [.claimConflict], conflictStation := some station }

theorem witness_conflicts :
    (peered deciding [peer .firm]).admission.queue = [] ++ placed .tentative :: []
      ∧ (peered deciding [peer .firm]).claimOf 1 = some (settled .due)
      ∧ (∃ e ∈ (peered deciding [peer .firm]).claims.peers,
        (∃ x ∈ (settled .due).cells, x ∈ e.cells)
          ∧ (e.state ≠ .tentative ∨ e.precedence < (settled .due).precedence))
      ∧ deciding.claims.peers = []
      ∧ peer .firm ∈ conflicting.claims.peers ∧ (peer .firm).state ≠ .tentative
      ∧ claimed .firm (some 0) ∈ conflicting.claims.own
      ∧ (∃ x ∈ (claimed .firm (some 0)).cells, x ∈ (peer .firm).cells)
      ∧ conflicting.stop.causes.claimConflict = false
      ∧ ({ conflicting with stop := conflictCauses 9 } : State).stop.causes.claimConflict = true
      ∧ ({ conflicting with stop := conflictCauses 9 } : State).stop.conflictStation
        = some (peer .firm).station
      ∧ ({ conflicting with stop := conflictCauses 10 } : State).stop.conflictStation
        ≠ some (peer .firm).station
      ∧ deciding.readSlot (slot 0 0) = .vacant ∧ (deciding.wall 7).gap = false
      ∧ ({ deciding with map := (recorded .set false).map } : State).readSlot (slot 0 0) ≠ .vacant
      ∧ ({ deciding with walls := (windowed true true).walls } : State).readSlot (slot 0 0) = .vacant
      ∧ (({ deciding with walls := (windowed true true).walls } : State).wall 7).gap = true := by
  decide +kernel

theorem witness_claim_timers :
    ({ timing (placed .firm) with now := 1000 } : State).ownClaim 0 = some (claimed .firm (some 0))
      ∧ (claimed .firm (some 0)).lastSend = some 0 ∧ (claimed .firm (some 0)).refreshTaken = false
      ∧ (claimed .firm (some 0)).lapsed = false ∧ (claimed .firm (some 0)).abandoned = false
      ∧ reached 500 (later 0 cfg.refresh) = true ∧ reached 499 (later 0 cfg.refresh) = false
      ∧ reached 1000 (later 0 (2 * cfg.refresh)) = true
      ∧ (peered online [peer .firm]).peerEntry 9 3 = some (peer .firm)
      ∧ reached online.now (peer .firm).expiry = true
      ∧ (∃ c ∈ (busy (placed .firm) { claimed .firm (some 0) with lapsed := true }).claims.own,
        c.lapsed = true)
      ∧ (∀ c ∈ (timing (placed .firm)).claims.own, c.lapsed = false)
      ∧ (busy (placed .firm) { claimed .firm none with announce := .owed }).claims.own
        = [] ++ { claimed .firm none with announce := .owed } :: []
      ∧ (busy (placed .firm) { claimed .firm none with announce := .owed }).site.leaveExpired = false
      ∧ (busy (placed .firm) { claimed .firm none with announce := .owed }).tx.urgent.length < 8 := by
  decide +kernel

/-! ### The stop controller -/

/-- The latch is set with no cause; a FIRM placement's motion limit is held. -/
def suspended (ms : Nat) : State :=
  { quiet (timing { placed .firm with motion := .held ms }) with
    stop := { online.stop with latch := true, first := some .restart } }

/-- R58, R59, R158: at RESUME a timer held at 0 ms expires at once, another runs on. -/
theorem test_resume_motion :
    (after .resume (suspended 0)).admission.queue.map Placement.overrun = [true]
      ∧ (after .resume (suspended 0)).admission.queue.map Placement.reportOwed = [true]
      ∧ (after .resume (suspended 0)).admission.queue.map Placement.motion = [.stopped]
      ∧ (after .resume (suspended 7)).admission.queue.map Placement.motion = [.running 7]
      ∧ (after .resume (suspended 7)).admission.queue.map Placement.overrun = [false] := by
  decide +kernel

theorem witness_resume :
    (quiet configured).readyFor .resume ∧ configured.stop.causes.isEmpty = false
      ∧ (quiet online).readyFor .resume ∧ online.stop.causes.isEmpty = true
      ∧ online.stop.latch = false
      ∧ (suspended 0).readyFor .resume ∧ (suspended 0).stop.causes.isEmpty = true
      ∧ (suspended 0).stop.latch = true := by
  unfold State.readyFor; decide +kernel

theorem witness_inputs :
    online.inRestart = false ∧ false = online.stop.lstopStop ∧ true ≠ online.stop.lstopStop
      ∧ online.stop.lstopDiffer + 9 < online.stop.lstopFilter
      ∧ online.stop.lstopDiffer + 10 = online.stop.lstopFilter
      ∧ ({ online.stop with lstopDiffer := 6, lstopFilter := 3 } : StopControl).lstopFilter ≤ 6
      ∧ (restarting online).inRestart = true := by decide +kernel

theorem witness_reference :
    online.inRestart = false ∧ online.monitor.reference = true ∧ online.site.state.onSite = true
      ∧ configured.site.state.onSite = false ∧ configured.monitor.reference = true
      ∧ (after .srefLost configured).monitor.reference = false
      ∧ (after .srefLost State.reset).site.state = .unconfigured
      ∧ (after .srefLost configured).site.state ≠ .unconfigured := by decide +kernel

/-! ### The site link -/

theorem witness_octets :
    online.linkActive = true ∧ (online.compareOctet fun x => x == 5).rx.phase = .gapWait
      ∧ (hearing online .hunt).linkActive = true
      ∧ ((hearing online .hunt).compareOctet fun x => x == 0x96).rx.phase = .hunt
      ∧ ((hearing online .hunt).compareOctet fun x => x == 0x96).rx.fill + 4 ≤ 2048
      ∧ (0x95 : Octet) ≠ 0x96 ∧ 3 ≤ (3 : Octet).toNat ∧ (80 : Octet).toNat ≤ 80
      ∧ ((hearing online (.length false)).compareOctet fun x => x == 3).rx.phase = .length false
      ∧ ((hearing online (.body opened)).compareOctet fun x => x == 3).rx.phase = .body opened
      ∧ ((hearing online (.body opened)).compareOctet fun x => x == 3).rx.fill + 1 ≤ 2048
      ∧ opened.octets.length + 1 < opened.length.toNat
      ∧ ({ opened with length := 1 } : OpenFrame).length.toNat
        ≤ ({ opened with length := 1 } : OpenFrame).octets.length + 1
      ∧ ((hearing online (.check opened none)).compareOctet fun x => x == 3).rx.phase
        = .check opened none
      ∧ ((hearing online (.check opened (some 1))).compareOctet fun x => x == 3).rx.phase
        = .check opened (some 1)
      ∧ crc [3, 9, 2, 5] = 0xB7#8 ++ 0x4A#8 := by decide +kernel

/-- The store is full: 2,044 octets of complete frames and the status record of the frame in BODY. -/
def full (phase : RxPhase) (octets : Nat) : State :=
  { online with
    rx :=
      { online.rx with
        phase := phase
        frames := [{ echo := false, arrival := 0, octets := List.replicate octets 0 }] } }

theorem witness_drops :
    online.linkActive = true ∧ (hearing online (.body opened)).rx.phase = .body opened
      ∧ (hearing online (.length false)).rx.phase = .length false
      ∧ (hearing online (.length false)).rx.idleCount < 24 ∧ (2 : Octet).toNat < 3
      ∧ 80 < (81 : Octet).toNat ∧ (full (.body opened) 2040).rx.phase = .body opened
      ∧ 2048 < (full (.body opened) 2040).rx.fill + 1
      ∧ (full .hunt 2041).rx.phase = .hunt ∧ 2048 < (full .hunt 2041).rx.fill + 4
      ∧ (full .hunt 2041).rx.fill < 2048 ∧ ¬(full .hunt 2044).rx.fill < 2048
      ∧ (hearing online (.check opened (some 1))).rx.phase = .check opened (some 1)
      ∧ crc [80] ≠ 1#8 ++ 2#8 ∧ online.rx.phase = .gapWait := by decide +kernel

/-- ONLINE with view lag so. -/
def lagging (lag : Bool) : State := { online with rx := { online.rx with lag := lag } }

/-- R101: at its thresholds view lag keeps its value. -/
theorem test_lag_thresholds :
    ((lagging false).judgeLagAt 1536).rx.lag = false ∧ ((lagging false).judgeLagAt 1537).rx.lag = true
      ∧ ((lagging true).judgeLagAt 512).rx.lag = true ∧ ((lagging true).judgeLagAt 511).rx.lag = false
      ∧ ((lagging false).judgeLagAt 1537).port.siteOwed = true
      ∧ (full (.body opened) 2040).rx.fill = 2048 := by decide +kernel

theorem witness_view_doubt :
    online.notice.doubtDue = none
      ∧ ({ online with notice := { online.notice with doubtDue := some 0 } } : State).notice.doubtDue
        ≠ none
      ∧ deciding.notice.doubtDue = none
      ∧ (∃ p ∈ deciding.admission.queue, p.state = .announcing ∨ p.state = .tentative)
      ∧ (¬∃ p ∈ online.admission.queue, p.state = .announcing ∨ p.state = .tentative)
      ∧ deciding.startDoubt.admission.queue.map Placement.state = [.waitCells]
      ∧ deciding.startDoubt.notice.doubtDue = some 1500 := by decide +kernel

theorem witness_view_lag :
    online.rx.lagOn < 1537 ∧ (lagging false).rx.lag = false ∧ (lagging true).rx.lag = true
      ∧ 1536 ≤ online.rx.lagOn ∧ 511 < online.rx.lagOff ∧ online.rx.lagOff ≤ 512
      ∧ online.rx.phase = .gapWait ∧ (hearing online (.length false)).rx.phase = .length false
      ∧ (hearing online (.check opened none)).rx.phase = .check opened none := by decide +kernel

/-- ONLINE with these queues. -/
def queued (urgent : List UrgentRecord) (bulk : List BulkRecord) : State :=
  { busy (placed .firm) (claimed .firm none) with
    tx := { online.tx with urgent := urgent, bulk := bulk } }

theorem witness_arbiter :
    (queued [.claim 5, .claim 0] []).linkActive = true ∧ (queued [] []).tx.current = none
      ∧ (queued [] []).ownClaim 5 = none
      ∧ (queued [.claim 5, .claim 0] []).tx.urgent = [.claim 5] ++ .claim 0 :: []
      ∧ (queued [] []).ownClaim 0 = some (claimed .firm none)
      ∧ (queued [.claim 5] []).tx.urgent = [.claim 5] ∧ (queued [.claim 5] []).tx.bulk = []
      ∧ (queued [] []).tx.urgent = []
      ∧ (queued [.release 2] []).tx.urgent = [] ++ .release 2 :: []
      ∧ (queued [] [.ownAnnounce 7]).tx.bulk = .ownAnnounce 7 :: []
      ∧ (queued [] [.answer 7 none]).tx.bulk = .answer 7 none :: []
      ∧ (queued [] [.survey]).tx.bulk = .survey :: []
      ∧ ({ online.notice with survey := some { select := .all, queued := true } } : NoticeUnit).survey
        = some { select := .all, queued := true } := by decide +kernel

/-- A RELEASE is being sent after so many collisions. -/
def collided (k : Nat) (last : Bool) : State :=
  sending online { frame (.release 0) .sending with collisions := k, lastAttempt := last }

theorem witness_attempts :
    (sending (after .lineIdle online) (frame (.release 0) .waiting)).linkActive = true
      ∧ (sending (after .lineIdle online) (frame (.release 0) .waiting)).tx.current
        = some (frame (.release 0) .waiting)
      ∧ (frame (.release 0) .waiting).phase = .waiting
      ∧ (sending (after .lineIdle online) (frame (.release 0) .waiting)).rx.idleCount = 24
      ∧ (sending online (frame (.release 0) (.backoff 3))).tx.current
        = some (frame (.release 0) (.backoff 3))
      ∧ (sending online (whole (.release 0))).tx.current = some (whole (.release 0))
      ∧ (whole (.release 0)).octets.length ≤ (whole (.release 0)).sent
      ∧ (frame (.release 0) .sending).sent < (frame (.release 0) .sending).octets.length
      ∧ (frame (.release 0) .sending).octets[(frame (.release 0) .sending).sent]? = some 0x96
      ∧ (fun x : Octet => x == 0x96) 0x96 = true ∧ (fun x : Octet => x == 0x95) 0x96 = false
      ∧ (collided 8 false).tx.current = some { frame (.release 0) .sending with collisions := 8 }
      ∧ (collided 8 true).tx.current
        = some { frame (.release 0) .sending with collisions := 8, lastAttempt := true }
      ∧ (collided 9 false).tx.current = some { frame (.release 0) .sending with collisions := 9 } := by
  decide +kernel

/-- An abandoned claim. -/
def dropped : OwnClaim := { claimed .tentative (some 0) with abandoned := true }

theorem witness_collisions :
    (sending (busy (placed .withdrawn) dropped) (frame (.claim 0 false) .sending)).ownClaim 0
        = some dropped
      ∧ dropped.abandoned = true ∧ online.ownClaim 0 = none
      ∧ (busy (placed .announcing) (claimed .tentative none)).ownClaim 0
        = some (claimed .tentative none)
      ∧ (claimed .tentative none).lastSend = none ∧ (claimed .firm (some 0)).lastSend = some 0
      ∧ (frame (.answer 7 [] none) .sending).lastAttempt = false
      ∧ ({ frame (.answer 7 [] none) .sending with lastAttempt := true } : CurrentFrame).lastAttempt
        = true := by decide +kernel

theorem witness_outcomes :
    (sending (busy (placed .announcing) (claimed .tentative none)) (whole (.claim 0 false))).tx.current
        = some (whole (.claim 0 false))
      ∧ (sending online (whole (.survey .all))).linkActive = true
      ∧ (whole (.claim 0 false)).phase = .sending
      ∧ (whole (.claim 0 false)).octets.length ≤ (whole (.claim 0 false)).sent
      ∧ (frame (.release 0) .sending).sent < (frame (.release 0) .sending).octets.length
      ∧ (whole (.survey .all)).source = .survey .all ∧ (whole (.survey .all)).lastAttempt = false
      ∧ online.walls.length ≤ 16
      ∧ (busy (placed .announcing) (claimed .tentative none)).ownClaim 0
        = some (claimed .tentative none)
      ∧ (busy (placed .withdrawn) dropped).ownClaim 0 = some dropped := by decide +kernel

/-! ### Notices and surveys -/

theorem witness_survey :
    (quiet online).readyFor (.surveyRequest 255) ∧ online.site.state.joined = true
      ∧ (quiet online).readyFor (.surveyRequest 7) ∧ (online.wall 7).definition.isSome = true
      ∧ ((quiet online).taken (.surveyRequest 7)).serveBulk.notice.survey = none := by
  unfold State.readyFor; decide +kernel

/-- ONLINE, a SURVEY pending and walls waiting to answer. -/
def owing (survey : Option PendingSurvey) (walls : List Nat) : State :=
  { online with
    walls := online.walls.modify 7 fun p => { p with heightOwed := true }
    notice := { online.notice with survey := survey, waitingWalls := walls } }

theorem witness_survey_merges :
    ((owing (some { select := .one 7, queued := false }) []).taken
          (.surveyRequest 7)).serveBulk.notice.survey = some { select := .one 7, queued := true }
      ∧ WallSelect.one 7 ≠ .all := by decide +kernel

theorem witness_bulk_sources :
    (owing none []).inRestart = false
      ∧ (owing (some { select := .all, queued := false }) []).notice.survey
        = some { select := .all, queued := false }
      ∧ (owing none [7]).notice.waitingWalls = 7 :: [] ∧ (owing none [7]).tx.bulk.length < 16
      ∧ (owing none [7]).notice.survey = none
      ∧ (owing none []).site.state.onSite = true ∧ (owing none []).wallOwes 7 = true
      ∧ (owing none []).tx.announcing 7 = false
      ∧ (∀ v, v < 7 → (owing none []).wallOwes v = false ∨ (owing none []).tx.announcing v = true)
      ∧ (owing (some { select := .all, queued := false }) [7, 3]).serveBulk.tx.bulk
        = [.survey, .answer 7 none, .answer 3 none, .ownAnnounce 7] := by
  decide +kernel

/-- ONLINE, an answer of wall 7 at the head of the bulk queue, in this state, after this cursor. -/
def answering (a : AnswerState) (again : Bool) (cursor : Option Slot) : State :=
  { recorded .set false with
    walls := online.walls.modify 7 fun p => { p with answer := a, again := again }
    tx := { online.tx with bulk := [.answer 7 cursor] } }

theorem witness_answers :
    (online.wall 7).answer = .idle ∧ ((answering .waiting false none).wall 7).answer = .waiting
      ∧ ((answering .queued false none).wall 7).answer = .queued
      ∧ ((answering .answering false none).wall 7).answer = .answering
      ∧ ((answering .answering false none).wall 7).again = false
      ∧ ((answering .answering true none).wall 7).again = true
      ∧ (answering .answering false none).tx.bulk = .answer 7 none :: []
      ∧ ((answering .answering false none).recordsAfter 7 none).length = 1
      ∧ (answering .answering false (some (slot 0 0))).recordsAfter 7 (some (slot 0 0)) = [] := by
  decide +kernel

theorem witness_frames :
    (stored online [heard]).linkActive = true ∧ (stored online [heard]).notice.processing = none
      ∧ (stored online [heard]).claims.own = [] ∧ (stored online [heard]).rx.frames = heard :: []
      ∧ (stored deciding [heard]).linkActive = true ∧ (stored deciding [heard]).notice.processing = none
      ∧ (stored deciding [heard]).claims.own = [] ++ settled .due :: []
      ∧ (settled .due).abandoned = false ∧ (settled .due).state = .tentative
      ∧ (settled .due).decision = .due ∧ (stored deciding [heard]).rx.frames = heard :: []
      ∧ ({ heard with echo := true } : StoredFrame).echo = true ∧ heard.echo = false
      ∧ heard.octets = 9 :: 4 :: [255]
      ∧ decodeNotice 4 [255] = some (.survey 255) ∧ decodeNotice 4 [16] = none
      ∧ (31 : Octet).toNat > 30 ∧ (30 : Octet).toNat ≤ 30 ∧ (0 : Octet).toNat < 1
      ∧ (1 : Octet).toNat ≥ 1 := by decide +kernel

theorem witness_notices :
    online.site.state.onSite = true ∧ 9 ≠ online.cfg.station ∧ 4 = online.cfg.station
      ∧ ClaimState.ofCode 3 = some .seated ∧ ClaimState.ofCode 0 = none
      ∧ (2046 : Word16).toNat ≤ 2046 ∧ ¬(2047 : Word16).toNat ≤ 2046
      ∧ 1 ≤ ([16383] : List Word16).length ∧ ([16383] : List Word16).length ≤ 16
      ∧ (16383 : Word16).toNat ≤ 16383
      ∧ reached online.now ((0 : LocalTime) + (1500 : Word16).setWidth 32) = false
      ∧ enterPeer 0 { peer .firm with expiry := 1500 } [] = some [{ peer .firm with expiry := 1500 }]
      ∧ reached online.now ((0 : LocalTime) + (0 : Word16).setWidth 32) = true
      ∧ peer .firm ∈ (peered online [peer .firm]).claims.peers ∧ (peer .firm).station = 9
      ∧ (∀ e ∈ online.claims.peers, ¬(e.station = 9 ∧ e.number = 3))
      ∧ online.site.state.joined = true ∧ (7 : Octet).toNat < 16
      ∧ (online.wall 7).definition.isSome = true ∧ (online.wall 15).definition = none
      ∧ configured.site.state.onSite = false ∧ configured.site.state.joined = false := by
  decide +kernel

/-- So many entries of other stations, two each, alive until this time. -/
def table (n : Nat) (expiry : LocalTime) : List PeerEntry :=
  (List.range n).map fun i =>
    { peer .firm with station := 6 + i / 2, number := BitVec.ofNat 8 i, expiry := expiry }

/-- An entry of station 30. -/
def newcomer : PeerEntry := { peer .firm with station := 30, number := 99, expiry := 1500 }

theorem witness_peer_table :
    (∃ x ∈ [peer .firm], x.station = (peer .firm).station ∧ x.number = (peer .firm).number)
      ∧ (∀ x ∈ table 47 1500, ¬(x.station = newcomer.station ∧ x.number = newcomer.number))
      ∧ (table 47 1500).countP (fun x => x.station == newcomer.station) < 2
      ∧ (table 47 1500).length < 48 ∧ 48 ≤ (table 48 1500).length
      ∧ ((table 48 0).filter fun x => !reached 0 x.expiry).length < 48
      ∧ 48 ≤ ((table 48 1500).filter fun x => !reached 0 x.expiry).length
      ∧ 2 ≤ [{ newcomer with number := 1 }, { newcomer with number := 2 }].countP
        (fun x => x.station == newcomer.station)
      ∧ enterPeer 0 newcomer (table 48 1500) = none := by decide +kernel

theorem witness_laid :
    (online.wall 15).definition = none ∧ (online.wall 7).definition = some shortWall
      ∧ min 0 (shortWall.top + 1) ≤ (online.wall 7).solidHeight
      ∧ (online.wall 7).solidHeight < min 1 (shortWall.top + 1)
      ∧ (0 : Octet).toNat < (retired.wall 7).solidHeight ∧ shortWall.inRange 3 0 = false
      ∧ (online.wall 7).solidHeight ≤ (0 : Octet).toNat ∧ shortWall.inRange 0 0 = true
      ∧ online.recordAt (slot 0 0) = none ∧ online.map.records.length < 1022
      ∧ 1022 ≤ (List.replicate 1022 (placed .done)).length
      ∧ ((windowed true true).wall 7).gap = true ∧ (online.wall 7).gap = false
      ∧ (recorded .set true).recordAt (slot 0 0)
        = some { slot := slot 0 0, state := .set, laidBy := 12, own := true, owed := false }
      ∧ (recorded .set false).recordAt (slot 0 0)
        = some { slot := slot 0 0, state := .set, laidBy := 12, own := false, owed := false }
      ∧ (recorded (.wet 999000) false).recordAt (slot 0 0)
        = some { slot := slot 0 0, state := .wet 999000, laidBy := 12, own := false, owed := false }
      ∧ maturity (online.cureClass 0).accum 999000 = 1000
      ∧ (online.cureClass 0).threshold ≤ (216000 : BitVec 24).toNat
      ∧ (1001 : BitVec 24).toNat < (online.cureClass 0).threshold := by decide +kernel

/-- A map of 1,022 records of wall 6 stands; the slots of wall 7 are OPEN. -/
theorem witness_map_full :
    let records : List SlotRecord :=
      (List.range 1022).map fun i =>
        { slot := { wall := 6, course := 0, pos := i }, state := .set, laidBy := 12, own := false
          owed := false }
    1022 ≤ ({ online with map := { online.map with records := records } } : State).map.records.length := by
  decide +kernel

/-! ### Ticks, conversions, wind and restarts -/

theorem witness_ticks :
    online.linkActive = true ∧ online.cure.tickDue = some 0 ∧ reached online.now 0 = true
      ∧ online.port.intake = none ∧ (taking lowering configured).linkActive = true
      ∧ (taking lowering configured).port.intake = some lowering
      ∧ (taking lowering configured).walksFor lowering = true
      ∧ online.monitor.windowDue = some 0 ∧ online.monitor.gusts.length < 12
      ∧ List.replicate 12 5 = 5 :: List.replicate 11 5 ∧ (List.replicate 11 5).length = 11 := by
  decide +kernel

theorem witness_walks :
    online.recordAt (slot 0 0) = none ∧ twoLaid.recordAt (slot 0 1)
        = some { slot := slot 0 1, state := .set, laidBy := 12, own := false, owed := false }
      ∧ twoLaid.recordAt (slot 0 0)
        = some { slot := slot 0 0, state := .wet 1000000, laidBy := 4, own := true, owed := true }
      ∧ (twoLaid.wall 7).definition = some shortWall
      ∧ (twoLaid.cureClass 0).threshold ≤ ((twoLaid.cureClass 0).accum - 1000000).toNat
      ∧ ((online.cureClass 0).accum - 1000000).toNat < (online.cureClass 0).threshold
      ∧ (online.wall 15).definition = none ∧ shortWall.top ≤ 63
      ∧ (online.wall 7).solidHeight ≤ shortWall.top := by decide +kernel

/-- Both slots of course 0 of wall 7 are SET. -/
def ripe : State :=
  { twoLaid with
    map := { twoLaid.map with records := twoLaid.map.records.map fun r => { r with state := .set } } }

theorem witness_retires :
    (ripe.wall 7).definition = some shortWall
      ∧ ∀ p, p < shortWall.slotCount 0 → ∃ r, ripe.recordAt (slot 0 p) = some r ∧ r.state = .set := by
  refine ⟨by decide +kernel, ?_⟩
  intro p hp
  have : p = 0 ∨ p = 1 := by
    have : shortWall.slotCount 0 = 2 := by decide +kernel
    omega
  rcases this with rfl | rfl
  · exact ⟨{ slot := slot 0 0, state := .set, laidBy := 4, own := true, owed := true },
      by decide +kernel, rfl⟩
  · exact ⟨{ slot := slot 0 1, state := .set, laidBy := 12, own := false, owed := false },
      by decide +kernel, rfl⟩

/-- The site in this stability state with measures of 5, the wind and the temperature so. -/
def measured (st : Stability) (gust : Option Nat) (ambient : Option Int) (dwell : Option LocalTime) :
    State :=
  { online with
    monitor :=
      { online.monitor with
        state := st, inclineX := some 5, inclineY := some 5, strain := some 5, ambient := ambient
        gusts := gust.toList, dwellDue := dwell } }

theorem witness_stability :
    online.monitor.strain = none ∧ (measured .halted (some 5) (some 20) none).monitor.gust = some 5
      ∧ (measured .halted (some 5) (some 20) none).monitor.state = .halted
      ∧ 5 < online.monitor.limits.gustHaltOff ∧ 5 < online.monitor.limits.inclineOff
      ∧ 5 < online.monitor.limits.strainOff ∧ 5 < online.monitor.limits.gustPauseOff
      ∧ ¬(170 : Nat) < online.monitor.limits.gustHaltOff ∧ 170 < online.monitor.limits.gustHaltOn
      ∧ online.monitor.limits.gustPauseOn ≤ 170
      ∧ (measured .calm (some 5) none none).monitor.ambient = none
      ∧ (measured .calm (some 5) (some 20) none).monitor.ambient ≠ none
      ∧ (measured .paused (some 5) (some 20) (some 1)).monitor.dwellDue = some 1
      ∧ reached online.now 1 = false ∧ reached online.now 0 = true
      ∧ (measured .paused (some 5) (some 20) none).monitor.dwellDue = none := by decide +kernel

theorem witness_causes :
    online.monitor.state = .calm ∧ online.monitor.state ≠ .halted
      ∧ (∃ p ∈ deciding.admission.queue, p.state = .announcing ∨ p.state = .tentative)
      ∧ (¬∃ p ∈ online.admission.queue, p.state = .announcing ∨ p.state = .tentative)
      ∧ deciding.stop.causes.has .localStop = false
      ∧ online.stop.causes.has .localStop = false ∧ online.stop.latch = false
      ∧ configured.stop.causes.has .localStop = false ∧ configured.stop.latch = true
      ∧ configured.stop.causes.has .stability = true := by decide +kernel

theorem witness_conversions :
    online.inRestart = false ∧ online.monitor.scan = some 0
      ∧ ({ online.monitor with scan := some 1 } : Monitor).scan = some 1
      ∧ ({ online.monitor with scan := some 2 } : Monitor).scan = some 2
      ∧ ({ online.monitor with scan := some 3 } : Monitor).scan = some 3
      ∧ online.site.state.onSite = true ∧ configured.site.state.onSite = false := by decide +kernel

theorem witness_rings :
    Machine.Ring.invalid.a = none ∧ (ring 452 455 453 456).a = some 452
      ∧ (ring 452 455 453 456).b = some 455 ∧ (ring 452 455 453 456).c = some 453
      ∧ (ring 452 455 453 456).d = some 456 ∧ (∃ x ∈ [452, 455, 453, 0], x = 0 ∨ x = 1023)
      ∧ (∀ x ∈ [452, 455, 453, 456], x ≠ 0 ∧ x ≠ 1023) := by decide

theorem witness_wind :
    online.linkActive = true ∧ online.monitor.windLevel = none
      ∧ (after (.windRisingEdge 1) online).monitor.windLevel = some true
      ∧ (after (.windFallingEdge 1) online).monitor.windLevel = some false
      ∧ online.monitor.windDiffer + 2 < online.monitor.limits.windFilter + 1
      ∧ online.monitor.limits.windFilter + 1 ≤ online.monitor.windDiffer + 3 := by decide +kernel

theorem witness_restarts :
    online.supply.hold = none ∧ online.port.intake = none
      ∧ (taking lowering configured).supply.hold = none
      ∧ (taking lowering configured).port.intake = some lowering
      ∧ (taking lowering configured).walksFor lowering = true
      ∧ (restarting online).supply.hold
        = some { resetLow := true, supplyCut := false, poweredOff := false }
      ∧ (after .powerOff (restarting online)).supply.hold
        = some { resetLow := true, supplyCut := false, poweredOff := true }
      ∧ (restarting online).site.config = some cfg
      ∧ (restarting State.reset).site.config = none := by decide +kernel

/-! ### Layouts and geometry -/

theorem witness_layouts :
    Instr.requestKind (.place placeFields) = some .place ∧ Instr.wellFormed (.place placeFields) = true
      ∧ Notice.wellFormed (.survey 255) = true
      ∧ decodeRequest [0x30] = some .resume ∧ decodeNotice 4 [255] = some (.survey 255)
      ∧ (List.replicate 80 (0 : Octet)).length ≤ 80 := by decide +kernel

theorem witness_crc :
    (collided 0 false).tx.current = some (frame (.release 0) .sending)
      ∧ exec .collision (collided 9 false) = .next (after .collision (collided 9 false))
      ∧ (after .collision (collided 0 false)).tx.current.isSome = true
      ∧ (hearing online (.check opened (some 1))).linkActive = true
      ∧ exec (.octetReceived 2 true) (hearing online (.check opened (some 1)))
        = .next (after (.octetReceived 2 true) (hearing online (.check opened (some 1)))) := by
  refine ⟨by decide +kernel, rfl, by rfl, by decide +kernel, rfl⟩

theorem witness_crossing :
    (hearing online .hunt).linkActive = true ∧ (hearing online .hunt).rx.phase = .hunt
      ∧ 3 ≤ heard.octets.length ∧ heard.octets.length ≤ 80
      ∧ (hearing online .hunt).rx.fill + 4 + heard.octets.length ≤ 2048
      ∧ (hearing online .hunt).txen = false
      ∧ (sending (hearing online .hunt)
          { frame (.release 3) .sending with octets := frameOctets [4, 2, 3] }).tx.current
        = some { frame (.release 3) .sending with octets := frameOctets [4, 2, 3] }
      ∧ (frame (.release 3) .sending).sent = 0 ∧ ([4, 2, 3] : List Octet) ≠ heard.octets := by
  decide +kernel

theorem witness_geometry :
    shortWall.length % 2 = 0 ∧ 4 ≤ shortWall.length ∧ 2 < shortWall.slotCount 1 ∧ 1 ≤ cfg.cellEdge
      ∧ (online.wall 7).definition = some shortWall
      ∧ shortWall.gridCheck cfg.halfModule cfg.courseHeight cfg.cellEdge = true
      ∧ shortWall.inRange 2 1 = true := by decide +kernel

/-! ### Properties of the whole part -/

theorem witness_transitions :
    exec .cureTick online = .next (after .cureTick online)
      ∧ (online.wall 7).definition = some shortWall
      ∧ exec .start (quiet configured) = .next (after .start (quiet configured))
      ∧ (after .start (quiet configured)).site.state ≠ (quiet configured).site.state
      ∧ (after .powerOff (after (.restartBegin .supplyCut) online)).poweredOff = true := by
  refine ⟨rfl, by decide +kernel, rfl, by decide +kernel, by decide +kernel⟩

theorem witness_firm :
    deciding.AnnouncedReady ∧ exec .firmDecision deciding = .next (after .firmDecision deciding)
      ∧ (after .firmDecision deciding).admission.queue.map Placement.state = [.firm] := by
  refine ⟨?_, rfl, by decide +kernel⟩
  intro p hp _
  have : p = placed .tentative := by simpa [deciding, busy] using hp
  subst this
  decide +kernel

theorem witness_stop_sound :
    State.reset.stop.Sound ∧ step State.reset = .next State.reset.tick := by
  refine ⟨⟨by decide, by decide, ?_, by decide, by decide⟩, by rfl⟩
  intro c; cases c <;> decide

theorem witness_map_sound : twoLaid.MapSound ∧ step twoLaid = .next (after .ownAnnounceQueued twoLaid) := by
  refine ⟨?_, by rfl⟩
  unfold State.MapSound
  decide +kernel

theorem witness_stability_sound : deciding.StabilitySound := by
  unfold State.StabilitySound; decide +kernel

theorem witness_none_ripe : online.MapSound ∧ online.NoneRipe := by
  refine ⟨by unfold State.MapSound; decide +kernel, ?_, ?_, ?_, ?_⟩
  · decide +kernel
  · decide +kernel
  · decide +kernel
  · intro _ r hr; exact absurd hr (by simp [online, configured, State.reset])

theorem witness_bounded : deciding.Bounded := by
  unfold State.Bounded State.WithinCapacity State.MapBounded State.StoreSound PeersSound
  refine ⟨by decide +kernel, by decide +kernel, by decide +kernel,
    ⟨by decide +kernel, ?_, by decide +kernel⟩, by decide +kernel⟩
  intro station
  simp [deciding, busy, online, configured, State.reset]

theorem witness_admission_sound : deciding.AdmissionSound ∧ deciding.MapSound := by
  unfold State.AdmissionSound State.MapSound; decide +kernel

theorem witness_claims_serve : deciding.ClaimsServe := by
  refine ⟨?_, by decide +kernel, by decide +kernel, by decide +kernel, by decide +kernel, ?_⟩
  · intro c hc _
    have : c = settled .due := by simpa [deciding, busy] using hc
    subst this
    exact ⟨placed .tentative, List.mem_singleton.mpr rfl, rfl, rfl, fun _ => rfl⟩
  · intro i frame h
    exact absurd h (by simp [deciding, busy, online, configured, State.reset])

theorem witness_causes_true :
    deciding.CausesTrue ∧ ({ conflicting with stop := conflictCauses 9 } : State).CausesTrue := by
  unfold State.CausesTrue; decide +kernel

end Sys2Proof.Tests
end

namespace Sys2Proof.Machine

/-- The local time that has passed since a due time, counted in milliseconds modulo 2^32 (R1). -/
theorem toNat_localTime_sub (now due : LocalTime) :
    ((now - due).toNat : Int) = ((now.toNat : Int) - due.toNat) % 2 ^ 32 := by
  have counted : ((now - due).toNat : Int) = (2 ^ 32 - due.toNat + now.toNat) % 2 ^ 32 := by
    have := due.isLt
    rw [BitVec.toNat_sub]
    omega
  have turned : (2 ^ 32 - due.toNat + now.toNat : Int) = now.toNat - due.toNat + 2 ^ 32 := by ring
  rw [counted, turned, Int.add_emod_right]

/-- The comparison of local times, read on the difference of the two words. -/
theorem reached_iff (now due : LocalTime) :
    reached now due = true ↔ (now - due).toNat < 2 ^ 31 := by
  simp only [reached, decide_eq_true_eq]

/-- Settles O41: the word's difference is the difference of the counts modulo 2^32. -/
theorem reachedIsHalfTheRange : Obligations.ReachedIsHalfTheRange := by
  intro now due
  rw [reached_iff, ← toNat_localTime_sub]
  norm_cast

end Sys2Proof.Machine

namespace Sys2Proof.Machine

/-! ### Slots and spans of a course (R6) -/

section Spans
variable {d : WallDef} {course p : Nat}

theorem WallDef.staggered_iff :
    d.staggered course = true ↔ d.bond = .running ∧ course % 2 = 1 := by
  simp [WallDef.staggered]

theorem WallDef.not_staggered_iff :
    d.staggered course = false ↔ d.bond = .stack ∨ course % 2 = 0 := by
  cases hb : d.bond <;> simp [WallDef.staggered, hb]

theorem WallDef.slotCount_of_staggered (h : d.staggered course = true) :
    d.slotCount course = d.length / 2 + 1 := by
  simp [WallDef.slotCount, h]

theorem WallDef.slotCount_of_not_staggered (h : d.staggered course = false) :
    d.slotCount course = d.length / 2 := by
  simp [WallDef.slotCount, h]

theorem WallDef.span_of_not_staggered (h : d.staggered course = false) (p : Nat) :
    d.span course p = (2 * p, 2 * p + 2) := by
  simp [WallDef.span, h]

/-- The three rows of R6's table for a staggered course in one form: the half bricks at the ends are whole
bricks cut off at 0 and at L. -/
theorem WallDef.span_of_staggered (h : d.staggered course = true) (even : d.length % 2 = 0)
    (long : 4 ≤ d.length) (hp : p ≤ d.length / 2) :
    d.span course p = (2 * p - 1, min (2 * p + 1) d.length) := by
  simp only [WallDef.span, h, if_true]
  split_ifs with first last
  · rw [Prod.mk.injEq]; omega
  · rw [Prod.mk.injEq]; omega
  · rw [Prod.mk.injEq]; omega

theorem WallDef.inRange_iff :
    d.inRange course p = true ↔ course ≤ d.top ∧ p < d.slotCount course := by
  simp [WallDef.inRange]

/-- The position of the slot of a course that holds a half-module. -/
def WallDef.posAt (d : WallDef) (course x : Nat) : Nat :=
  if d.staggered course then (x + 1) / 2 else x / 2

theorem WallDef.posAt_lt_slotCount (even : d.length % 2 = 0) {x : Nat} (hx : x < d.length) :
    d.posAt course x < d.slotCount course := by
  unfold WallDef.posAt WallDef.slotCount
  split <;> omega

/-- A slot of a course holds exactly the half-modules whose position it has. -/
theorem WallDef.mem_span_iff (even : d.length % 2 = 0) (long : 4 ≤ d.length)
    (hp : p < d.slotCount course) {x : Nat} (hx : x < d.length) :
    ((d.span course p).1 ≤ x ∧ x < (d.span course p).2) ↔ p = d.posAt course x := by
  cases h : d.staggered course with
  | true =>
    rw [slotCount_of_staggered h] at hp
    rw [span_of_staggered h even long (by omega)]
    simp only [WallDef.posAt, h, if_true]
    omega
  | false =>
    rw [span_of_not_staggered h]
    simp only [WallDef.posAt, h, Bool.false_eq_true, if_false]
    omega

theorem WallDef.span_snd_le_length (even : d.length % 2 = 0) (long : 4 ≤ d.length)
    (hp : p < d.slotCount course) : (d.span course p).2 ≤ d.length := by
  cases h : d.staggered course with
  | true =>
    rw [slotCount_of_staggered h] at hp
    rw [span_of_staggered h even long (by omega)]
    exact min_le_right _ _
  | false =>
    rw [slotCount_of_not_staggered h] at hp
    rw [span_of_not_staggered h]
    dsimp only
    omega

end Spans

/-- Settles O42: the half-module x lies in the slot at `posAt` x and in no other. -/
theorem slotsTileTheWall : Obligations.SlotsTileTheWall := by
  intro d course even long
  refine ⟨fun whole => ?_, fun running odd => ?_, fun p => WallDef.inRange_iff,
    fun p hp => WallDef.span_snd_le_length even long hp, fun x hx => ?_⟩
  · have h := WallDef.not_staggered_iff.mpr whole
    exact ⟨WallDef.slotCount_of_not_staggered h, WallDef.span_of_not_staggered h⟩
  · have h := WallDef.staggered_iff.mpr ⟨running, odd⟩
    refine ⟨WallDef.slotCount_of_staggered h, ?_, fun p first last => ?_, ?_⟩
    · rw [WallDef.span_of_staggered h even long (by omega)]
      rw [Prod.mk.injEq]
      omega
    · rw [WallDef.span_of_staggered h even long (by omega)]
      rw [Prod.mk.injEq]
      omega
    · rw [WallDef.span_of_staggered h even long le_rfl]
      rw [Prod.mk.injEq]
      omega
  · have inside := WallDef.posAt_lt_slotCount (course := course) even hx
    obtain ⟨start, stop⟩ := (WallDef.mem_span_iff even long inside hx).mpr rfl
    exact ⟨d.posAt course x, inside, start, stop, fun q hq below above =>
      (WallDef.mem_span_iff even long hq hx).mp ⟨below, above⟩⟩

/-! ### Support slots (R7) -/

section Supports
variable {d : WallDef} {course pos : Nat}

@[simp] theorem WallDef.supports_zero : d.supports 0 pos = [] := rfl

theorem WallDef.supports_of_stack (hc : 1 ≤ course) (hb : d.bond = .stack) :
    d.supports course pos = [pos] := by
  simp [WallDef.supports, hb, Nat.ne_of_gt hc]

theorem WallDef.supports_of_running_even (hc : 1 ≤ course) (hb : d.bond = .running)
    (hpar : course % 2 = 0) : d.supports course pos = [pos, pos + 1] := by
  simp [WallDef.supports, hb, hpar, Nat.ne_of_gt hc]

theorem WallDef.supports_of_staggered (h : d.staggered course = true) :
    d.supports course pos =
      if pos = 0 then [0] else if pos = d.length / 2 then [d.length / 2 - 1] else [pos - 1, pos] := by
  obtain ⟨hb, hpar⟩ := staggered_iff.mp h
  have hc : course ≠ 0 := by omega
  simp [WallDef.supports, hb, hpar, hc]

/-- A staggered slot rests on the slots to its left and to its right, as far as the wall reaches. -/
theorem WallDef.mem_supports_of_staggered (h : d.staggered course = true) (long : 4 ≤ d.length)
    (hp : pos ≤ d.length / 2) {q : Nat} :
    q ∈ d.supports course pos ↔ q < d.length / 2 ∧ (q + 1 = pos ∨ q = pos) := by
  rw [supports_of_staggered h]
  split_ifs with first last
  · rw [List.mem_singleton]; omega
  · rw [List.mem_singleton]; omega
  · rw [List.mem_pair]; omega

theorem WallDef.supports_ascending : (d.supports course pos).Pairwise (· < ·) := by
  rcases Nat.eq_zero_or_pos course with rfl | hc
  · rw [supports_zero]; exact .nil
  · cases h : d.staggered course with
    | true =>
      rw [supports_of_staggered h]
      split_ifs with first last
      · exact List.pairwise_singleton _ _
      · exact List.pairwise_singleton _ _
      · exact List.pairwise_pair.mpr (by omega)
    | false =>
      cases hb : d.bond with
      | stack => rw [supports_of_stack hc hb]; exact List.pairwise_singleton _ _
      | running =>
        have hpar : course % 2 = 0 := by simpa [hb] using not_staggered_iff.mp h
        rw [supports_of_running_even hc hb hpar]
        exact List.pairwise_pair.mpr (Nat.lt_succ_self pos)

/-- R7, by the three patterns of a course and the one beneath: STACK on STACK, a plain course on a
staggered one, a staggered course on a plain one. -/
theorem WallDef.mem_supports_iff_overlap (even : d.length % 2 = 0) (long : 4 ≤ d.length)
    (hp : pos < d.slotCount course) (hc : 1 ≤ course) {q : Nat} :
    q ∈ d.supports course pos ↔ q < d.slotCount (course - 1)
      ∧ (d.span (course - 1) q).1 < (d.span course pos).2
      ∧ (d.span course pos).1 < (d.span (course - 1) q).2 := by
  cases h : d.staggered course with
  | true =>
    obtain ⟨hb, hpar⟩ := staggered_iff.mp h
    have beneath : d.staggered (course - 1) = false := not_staggered_iff.mpr (.inr (by omega))
    rw [slotCount_of_staggered h] at hp
    rw [mem_supports_of_staggered h long (by omega), slotCount_of_not_staggered beneath,
      span_of_not_staggered beneath, span_of_staggered h even long (by omega)]
    dsimp only
    omega
  | false =>
    rw [slotCount_of_not_staggered h] at hp
    rw [span_of_not_staggered h]
    cases hb : d.bond with
    | stack =>
      have beneath : d.staggered (course - 1) = false := not_staggered_iff.mpr (.inl hb)
      rw [supports_of_stack hc hb, List.mem_singleton, slotCount_of_not_staggered beneath,
        span_of_not_staggered beneath]
      dsimp only
      omega
    | running =>
      have hpar : course % 2 = 0 := by simpa [hb] using not_staggered_iff.mp h
      have beneath : d.staggered (course - 1) = true := staggered_iff.mpr ⟨hb, by omega⟩
      rw [supports_of_running_even hc hb hpar, List.mem_pair, slotCount_of_staggered beneath]
      constructor
      · intro hq
        rw [span_of_staggered beneath even long (by omega)]
        dsimp only
        omega
      · rintro ⟨inside, overlap⟩
        rw [span_of_staggered beneath even long (by omega)] at overlap
        dsimp only at overlap
        omega

end Supports

theorem SlotState.ready_iff (x : SlotState) : x.ready = true ↔ x = .set ∨ x = .retired := by
  cases x <;> simp [SlotState.ready]

theorem State.missingSupport_eq_find? {s : State} {target : Slot} {d : WallDef}
    (h : (s.wall target.wall).definition = some d) :
    s.missingSupport target =
      ((d.supports target.course target.pos).map fun p =>
        ({ wall := target.wall, course := target.course - 1, pos := p } : Slot)).find?
      fun slot => !(s.readSlot slot).ready := by
  simp only [State.missingSupport, h]

/-- Settles O43: overlap by the patterns of two neighbouring courses, and the missing support slot as the
first one that a search for a slot not ready finds. -/
theorem supportsAreTheOverlappingSlots : Obligations.SupportsAreTheOverlappingSlots := by
  refine ⟨fun d course pos even long hp =>
    ⟨WallDef.supports_zero, WallDef.supports_ascending, fun hc q =>
      WallDef.mem_supports_iff_overlap even long hp hc⟩, ?_⟩
  intro s target d hd supports ready
  have ready_iff (slot : Slot) : (s.readSlot slot).ready = true ↔ ready slot :=
    SlotState.ready_iff _
  rw [State.missingSupport_eq_find? hd]
  constructor
  · simp only [List.find?_eq_none, Bool.not_eq_true', Bool.not_eq_false, ready_iff, supports]
  · intro slot
    rw [List.find?_eq_some_iff_append]
    simp only [Bool.not_eq_true', Bool.not_not, ← Bool.not_eq_true, ready_iff]
    constructor
    · rintro ⟨missing, before, after, split, earlier⟩
      exact ⟨before, after, split, missing, earlier⟩
    · rintro ⟨before, after, split, missing, earlier⟩
      exact ⟨missing, before, after, split, earlier⟩

end Sys2Proof.Machine

namespace Sys2Proof.Machine

/-! ### Beginning a transfer (R162) -/

section Begin

variable {s : State}

/-- The one equation of TRANSFER_BEGIN that the cases of R162 share. -/
theorem exec_transferBegin_of_chosenItem {item : OutItem} (running : s.inRestart = false)
    (idle : s.port.selected = false) (chosen : s.chosenItem = item) :
    exec .transferBegin s = .next
      ((s.withTransfer true (some { item := item, frame := s.itemFrame item })).setOwed item
        false) := by
  have arm : exec .transferBegin s = execTransferBegin s := rfl
  simp [arm, execTransferBegin, running, idle, chosen]

theorem State.chosenItem_of_answer {a : Answer} (answer : s.port.answer = some a) :
    s.chosenItem = .answer := by
  simp [State.chosenItem, answer]

theorem State.chosenItem_of_stopOwed (answer : s.port.answer = none)
    (stop : s.port.stopOwed = true) : s.chosenItem = .stop := by
  simp [State.chosenItem, answer, stop]

theorem State.chosenItem_of_stabilityOwed (answer : s.port.answer = none)
    (stop : s.port.stopOwed = false) (stability : s.port.stabilityOwed = true) :
    s.chosenItem = .stability := by
  simp [State.chosenItem, answer, stop, stability]

theorem State.owedPlacement_eq_none (none_owed : ∀ q ∈ s.admission.queue, q.reportOwed = false) :
    s.owedPlacement = none :=
  List.findIdx?_eq_none_iff.mpr none_owed

/-- The site report is the last in the order, before the null frame. -/
theorem State.chosenItem_of_no_report (answer : s.port.answer = none)
    (stop : s.port.stopOwed = false) (stability : s.port.stabilityOwed = false)
    (none_owed : ∀ q ∈ s.admission.queue, q.reportOwed = false) :
    s.chosenItem = if s.port.siteOwed then .site else .null := by
  simp [State.chosenItem, answer, stop, stability, State.owedPlacement_eq_none none_owed]

variable {before after : List Placement} {p : Placement}

theorem State.owedPlacement_eq_some (split : s.admission.queue = before ++ p :: after)
    (earlier : ∀ q ∈ before, q.reportOwed = false) (owed : p.reportOwed = true) :
    s.owedPlacement = some before.length := by
  have skipped : before.findIdx? (fun q => q.reportOwed) = none :=
    List.findIdx?_eq_none_iff.mpr earlier
  simp [State.owedPlacement, split, List.findIdx?_append, skipped, List.findIdx?_cons, owed]

theorem State.chosenItem_of_reportOwed (answer : s.port.answer = none)
    (stop : s.port.stopOwed = false) (stability : s.port.stabilityOwed = false)
    (split : s.admission.queue = before ++ p :: after)
    (earlier : ∀ q ∈ before, q.reportOwed = false) (owed : p.reportOwed = true) :
    s.chosenItem = .placement before.length p.state.terminal := by
  simp [State.chosenItem, answer, stop, stability,
    State.owedPlacement_eq_some split earlier owed, split]

theorem modify_append_cons_length (f : Placement → Placement) :
    (before ++ p :: after).modify before.length f = before ++ f p :: after := by
  simp [List.modify_eq_take_drop]

end Begin

/-! ### The octets and bits on SDO (R161, R172) -/

section Shift

variable {s : State} {n : Nat}

theorem State.sdoOctet_of_transfer {t : Transfer} (running : s.inRestart = false)
    (selected : s.port.selected = true) (transfer : s.port.transfer = some t) :
    s.sdoOctet n = some (t.octet n) := by
  simp [State.sdoOctet, running, selected, transfer]

theorem State.sdoOctet_eq_none (silent : s.inRestart = true ∨ s.port.selected = false) :
    s.sdoOctet n = none := by
  rcases silent with restart | deselected
  · simp [State.sdoOctet, restart]
  · simp [State.sdoOctet, deselected]

/-- Bit `k` of the octet at place `n`, counted from the most significant one. -/
theorem State.sdo_of_sdoOctet {o : Octet} (octet : s.sdoOctet n = some o) {k : Nat} (hk : k < 8) :
    s.sdo (8 * n + k) = some (o.getLsbD (7 - k)) := by
  have place : (8 * n + k) / 8 = n := by omega
  have bit : (8 * n + k) % 8 = k := by omega
  simp [State.sdo, place, bit, octet, BitVec.getMsbD_eq_getLsbD, hk]

theorem Transfer.octet_of_getElem? {t : Transfer} {o : Octet} (octet : t.frame[n]? = some o) :
    t.octet n = o := by
  simp [Transfer.octet, octet]

theorem Transfer.octet_of_length_le {t : Transfer} (past : t.frame.length ≤ n) : t.octet n = 0 :=
  List.getD_eq_default _ _ past

end Shift

/-- Settles O2: `chosenItem` in each case of R162's order, and the octet of the running transfer. -/
theorem transferBeginTakesTheFirstOwedItem : Obligations.TransferBeginTakesTheFirstOwedItem := by
  refine ⟨?begin, ?shift, ?silent⟩
  case begin =>
    intro s running idle
    have begins {item : OutItem} := exec_transferBegin_of_chosenItem (item := item) running idle
    refine ⟨fun a answer => ?_, fun answer => ⟨fun stop => ?_, fun stop stability => ?_,
      fun stop stability => ⟨fun before after p split earlier owed => ?_,
        fun none_owed => ⟨fun site => ?_, fun site => ?_⟩⟩⟩⟩
    · rw [begins (State.chosenItem_of_answer answer)]
      simp [State.setOwed, State.itemFrame, State.withTransfer, answer]
    · rw [begins (State.chosenItem_of_stopOwed answer stop)]
      rfl
    · rw [begins (State.chosenItem_of_stabilityOwed answer stop stability)]
      rfl
    · rw [begins (State.chosenItem_of_reportOwed answer stop stability split earlier owed)]
      simp [State.setOwed, State.itemFrame, State.withTransfer, State.withQueue, split,
        modify_append_cons_length]
    · have chosen := State.chosenItem_of_no_report answer stop stability none_owed
      rw [begins (chosen.trans (if_pos site))]
      rfl
    · have chosen := State.chosenItem_of_no_report answer stop stability none_owed
      rw [begins (chosen.trans (if_neg (Bool.eq_false_iff.mp site)))]
      rfl
  case shift =>
    intro s t n running selected transfer
    have shifts {o : Octet} (octet : t.octet n = o) :
        s.sdoOctet n = some o ∧ ∀ k, k < 8 → s.sdo (8 * n + k) = some (o.getLsbD (7 - k)) := by
      have out : s.sdoOctet n = some o :=
        octet ▸ State.sdoOctet_of_transfer running selected transfer
      exact ⟨out, fun k hk => State.sdo_of_sdoOctet out hk⟩
    refine ⟨fun o octet => shifts (Transfer.octet_of_getElem? octet), fun past => ?_⟩
    simpa using shifts (Transfer.octet_of_length_le past)
  case silent =>
    intro s n silent
    exact ⟨State.sdoOctet_eq_none silent, by simp [State.sdo, State.sdoOctet_eq_none silent]⟩

end Sys2Proof.Machine

namespace Sys2Proof.Machine

/-! ### The CRC register (R186) -/

theorem crc_concat (l : List Octet) (o : Octet) :
    crc (l ++ [o]) = crcShift^[8] (crc l ^^^ (o ++ 0#8)) := by
  have shifts (r : BitVec 16) : crcOctet r o = crcShift^[8] (r ^^^ (o ++ 0#8)) := rfl
  rw [crc, List.foldl_concat, shifts]
  rfl

theorem crcShift_eq_ite_getLsbD (r : BitVec 16) :
    crcShift r = if r.getLsbD 15 then (r <<< 1) ^^^ 0x1021#16 else r <<< 1 := by
  rw [crcShift, BitVec.msb_eq_getLsbD_last]

theorem crc_check_octets :
    crc [0x31, 0x32, 0x33, 0x34, 0x35, 0x36, 0x37, 0x38, 0x39] = 0x29B1#16 := by
  decide +kernel

/-! ### What becomes of the current frame's octets -/

/-- No frame is current after a change but one with the octets of the frame current before it: it may
end, and no other takes its place. -/
def CurrentKept (s t : State) : Prop :=
  ∀ g, t.tx.current = some g → ∃ f, s.tx.current = some f ∧ g.octets = f.octets

namespace CurrentKept

variable {s t u : State}

theorem of_eq (same : t.tx.current = s.tx.current) : CurrentKept s t :=
  fun g current => ⟨g, same ▸ current, rfl⟩

theorem of_eq_none (ended : t.tx.current = none) : CurrentKept s t := by
  intro g current
  simp [ended] at current

theorem of_frame {l : List Block} (frame : Frame l s t) (untouched : Block.tx ∉ l) :
    CurrentKept s t :=
  have same : t.tx = s.tx := frame .tx untouched
  of_eq (congrArg Transmitter.current same)

theorem refl (s : State) : CurrentKept s s := of_eq rfl

theorem trans (first : CurrentKept s t) (second : CurrentKept t u) : CurrentKept s u := by
  intro h currentH
  obtain ⟨g, currentG, octetsG⟩ := second h currentH
  obtain ⟨f, currentF, octetsF⟩ := first g currentG
  exact ⟨f, currentF, octetsG.trans octetsF⟩

theorem ite {p : Prop} [Decidable p] (yes : CurrentKept s t) (no : CurrentKept s u) :
    CurrentKept s (if p then t else u) := by
  split <;> assumption

theorem foldl {α : Type} {f : State → α → State} (each : ∀ s a, CurrentKept s (f s a))
    (xs : List α) (s : State) : CurrentKept s (xs.foldl f s) := by
  induction xs generalizing s with
  | nil => exact refl s
  | cons x xs ih => exact (each s x).trans (ih (f s x))

end CurrentKept

/-! #### Own claims and the urgent queue -/

theorem State.serveOwed_currentKept (s : State) : CurrentKept s s.serveOwed :=
  have offered (t : State) (c : OwnClaim) : CurrentKept t (t.offerUrgent c) :=
    .ite (.of_eq rfl) (.refl t)
  CurrentKept.foldl offered _ _

theorem State.queueRelease_currentKept (s : State) (n : Octet) : CurrentKept s (s.queueRelease n) :=
  s.serveOwed_currentKept.trans (.ite (.of_eq rfl) (.refl _))

theorem State.requestAnnounce_currentKept (s : State) (n : Octet) :
    CurrentKept s (s.requestAnnounce n) := by
  unfold State.requestAnnounce
  split
  · exact .refl s
  · exact .ite (s.serveOwed_currentKept.trans (.ite (.of_eq rfl) (.of_eq rfl))) (.refl s)

theorem State.refreshContested_currentKept (s : State) : CurrentKept s s.refreshContested :=
  CurrentKept.foldl State.requestAnnounce_currentKept _ _

theorem State.dismissClaim_currentKept (s : State) (c : OwnClaim) :
    CurrentKept s (s.dismissClaim c) :=
  have deleted : CurrentKept s (s.deleteClaim c.number) := .of_eq rfl
  .ite (deleted.trans (State.queueRelease_currentKept _ _)) deleted

/-- Abandoning a claim is what can end the current frame between attempts (R52). -/
theorem State.abandonClaim_currentKept (s : State) (c : OwnClaim) :
    CurrentKept s (s.abandonClaim c) := by
  unfold State.abandonClaim
  dsimp only
  split
  · exact .of_eq rfl
  · exact CurrentKept.trans (.of_eq_none rfl) (State.dismissClaim_currentKept _ c)
  · exact CurrentKept.trans (.of_eq rfl) (State.dismissClaim_currentKept _ c)

theorem State.abandonTag_currentKept (s : State) (tag : Octet) :
    CurrentKept s (s.abandonTag tag) := by
  unfold State.abandonTag
  split
  · exact .refl s
  · exact s.abandonClaim_currentKept _

/-! #### Head evaluation and conflict re-evaluation -/

theorem State.evalHead_currentKept (s : State) : CurrentKept s s.evalHead := by
  have placed {t : State} (i : Nat) (f : Placement → Placement) (kept : CurrentKept s t) :
      CurrentKept s (t.mapPlacement i f) := kept.trans (.of_eq rfl)
  have announced (t : State) (i : Nat) (p : Placement) :
      CurrentKept t (t.announceHead i p).refreshContested :=
    (t.serveOwed_currentKept.trans (.of_eq rfl)).trans (State.refreshContested_currentKept _)
  refine .ite (State.evalHeads_keeps (P := CurrentKept s) ?fails ?supports ?waits ?announces _ s
    (.refl s)) (.refl s)
  case fails => exact fun t i p r _ _ _ kept => placed i _ kept
  case supports => exact fun t i p slot _ _ _ kept => placed i _ kept
  case waits => exact fun t i p r station _ _ _ kept => placed i _ kept
  case announces => exact fun t i p _ _ _ kept => kept.trans (announced t i p)

theorem State.yieldAnnounced_currentKept (s : State) : CurrentKept s s.yieldAnnounced := by
  unfold State.yieldAnnounced
  split
  · exact .refl s
  · split
    · exact .refl s
    · exact (s.abandonTag_currentKept _).trans (.of_eq rfl)

theorem State.blockingTest_currentKept (s : State) : CurrentKept s s.blockingTest := by
  unfold State.blockingTest
  split
  · exact .refl s
  · split
    · exact .refl s
    · exact .ite s.yieldAnnounced_currentKept (.refl s)

theorem State.conflictTest_currentKept (s : State) : CurrentKept s s.conflictTest := by
  have named (t : State) (n : Nat) : CurrentKept t (t.nameConflict n) :=
    .of_frame (t.nameConflict_frame n) (by decide)
  unfold State.conflictTest
  split
  · exact .of_frame (s.causeLeaves_frame _) (by decide)
  · have joined : CurrentKept s (s.causeJoins .claimConflict) :=
      .of_frame (s.causeJoins_frame _) (by decide)
    exact .ite (named s _)
      ((joined.trans (named _ _)).trans (State.yieldAnnounced_currentKept _))

theorem State.reevaluate_currentKept (s : State) : CurrentKept s s.reevaluate :=
  ((s.blockingTest_currentKept.trans (State.conflictTest_currentKept _)).trans
    (State.refreshContested_currentKept _)).trans (State.evalHead_currentKept _)

/-! #### Bulk queue -/

theorem State.serveOlder_currentKept (s : State) : CurrentKept s s.serveOlder := by
  have survey : CurrentKept s s.serveSurvey := .ite (.of_eq rfl) (.refl s)
  have answer (t : State) : CurrentKept t t.serveAnswer := by
    refine .ite ?_ (.refl t)
    unfold State.queueAnswer
    split <;> exact .of_eq rfl
  exact survey.trans (CurrentKept.foldl (fun t _ => answer t) _ _)

theorem State.serveBulk_currentKept (s : State) : CurrentKept s s.serveBulk := by
  have announce (t : State) : CurrentKept t t.serveAnnounce := by
    refine .ite ?_ (.refl t)
    unfold State.queueAnnounce
    split <;> exact .of_eq rfl
  exact s.serveOlder_currentKept.trans (CurrentKept.foldl (fun t _ => announce t) _ _)

theorem State.endAnswer_currentKept (s : State) (w : Nat) : CurrentKept s (s.endAnswer w) := by
  have owed (t : State) : CurrentKept t (t.oweAnswer w) :=
    t.serveOlder_currentKept.trans (.ite (.of_eq rfl) (.of_eq rfl))
  exact .ite (CurrentKept.trans (.of_eq rfl) (owed _)) (.of_eq rfl)

/-! #### Collisions -/

theorem State.claimDropped_currentKept (s : State) (n : Octet) (gone : Bool) :
    CurrentKept s (s.claimDropped n gone) := by
  refine .ite (.refl s) ?_
  split
  · exact .refl s
  · next c _ =>
    have failed : CurrentKept s ((s.deleteClaim n).mapTag c.tag .announcing fun p =>
        p.linkFail (s.after s.cfg.refresh)) :=
      .trans (.of_frame (s.deleteClaim_frame n) (by decide))
        (.of_frame (State.mapTag_frame (s.deleteClaim n) c.tag _ _) (by decide))
    exact .ite ((s.dismissClaim_currentKept c).trans (State.reevaluate_currentKept _))
      (.ite (failed.trans (State.reevaluate_currentKept _)) (s.requestAnnounce_currentKept n))

theorem State.claimFrameLost_currentKept (s : State) (n : Octet) (gone : Bool) :
    CurrentKept s (s.claimFrameLost n gone) := by
  refine .ite (.refl s) ?_
  split
  · exact .refl s
  · exact (s.dismissClaim_currentKept _).trans (State.reevaluate_currentKept _)

theorem State.frameDropped_currentKept (s : State) (f : CurrentFrame) :
    CurrentKept s (s.frameDropped f) := by
  have noted : CurrentKept s
      ({ s with tx := { s.tx with lastFail := some f.source.failKind } } : State).oweSite :=
    .of_eq rfl
  unfold State.frameDropped
  dsimp only
  split
  · exact noted.trans (State.claimDropped_currentKept _ _ _)
  · exact noted
  · exact noted
  · exact .ite noted
      ((noted.trans (State.serveBulk_currentKept _)).trans (State.endAnswer_currentKept _ _))
  · exact noted

theorem State.frameDiscarded_currentKept (s : State) (f : CurrentFrame) :
    CurrentKept s (s.frameDiscarded f) := by
  unfold State.frameDiscarded
  split
  · exact s.claimFrameLost_currentKept _ _
  all_goals exact .refl s

/-- A frame that collides backs off with its octets as they were, or ends and leaves none current. -/
theorem State.collide_currentKept {s : State} {f : CurrentFrame} (current : s.tx.current = some f) :
    CurrentKept s (s.collide f) := by
  have ended : CurrentKept s (s.breakEcho.withCurrent none) := .of_eq_none rfl
  refine .ite (ended.trans (State.frameDropped_currentKept _ f))
    (.ite (ended.trans (State.frameDiscarded_currentKept _ f)) ?backsOff)
  case backsOff =>
    rintro g ⟨⟩
    exact ⟨f, current, rfl⟩

theorem State.current_of_sentFrame {s : State} {f : CurrentFrame} (sent : s.sentFrame = some f) :
    s.tx.current = some f := by
  unfold State.sentFrame at sent
  split at sent
  · obtain ⟨current, -⟩ := Option.filter_eq_some_iff.mp sent
    exact current
  · cases sent

theorem exec_collision_currentKept {s t : State} (h : exec .collision s = .next t) :
    CurrentKept s t := by
  have arm : exec .collision s = execCollision s := rfl
  rw [arm] at h
  cases h
  split
  · exact .refl s
  · next f sent =>
    exact .ite (State.collide_currentKept (State.current_of_sentFrame sent)) (.refl s)

/-! ### The second CRC octet of a frame (R95, R97, R98) -/

theorem State.judgeLagAt_frames (s : State) (fill : Nat) :
    (s.judgeLagAt fill).rx.frames = s.rx.frames := by
  unfold State.judgeLagAt
  dsimp only
  split
  · rfl
  · have evaluated (t : State) : t.evalHead.rx = t.rx := t.evalHead_frame .rx (by decide)
    rw [evaluated]
    rfl

theorem State.dropFrame_frames (s : State) (next : RxPhase) :
    (s.dropFrame next).rx.frames = s.rx.frames := by
  have doubted (t : State) : t.startDoubt.rx = t.rx := t.startDoubt_frame .rx (by decide)
  rw [State.dropFrame, doubted]
  exact State.judgeLagAt_frames _ _

/-- Of the two outcomes of a second CRC octet only the arrival adds a complete frame. -/
theorem State.checkOctet_stores_iff (s : State) (f : OpenFrame) (hi lo : Octet) :
    (s.checkOctet lo f (some hi)).rx.frames.length = s.rx.frames.length + 1
      ↔ f.crc = word16 hi lo := by
  unfold State.checkOctet
  dsimp only
  split
  · next matched => simp [State.arrive, State.withRx, matched]
  · next differs => simp [State.dropFrame_frames, differs]

/-- Comparing an octet leaves the frame being checked, but for its echo mark. -/
theorem State.compareOctet_check {s : State} {f : OpenFrame} {first : Option Octet}
    (phase : s.rx.phase = .check f first) (agrees : Octet → Bool) (idle : Nat) :
    ((s.compareOctet agrees).withIdle idle).rx.frames = s.rx.frames
      ∧ ∃ echo, ((s.compareOctet agrees).withIdle idle).rx.phase
          = .check { f with echo := echo } first := by
  rcases s.compareOctet_rx agrees with same | broken
  · exact ⟨by simp [same], f.echo, by simp [same, phase]⟩
  · exact ⟨by simp [broken], false, by simp [broken, phase, RxPhase.loseEcho]⟩

theorem exec_octetReceived_of_linkActive {s : State} (active : s.linkActive = true) (o : Octet) :
    exec (.octetReceived o true) s = .next
      (((s.compareOctet fun x => octetLevels o true == octetLevels x true).withIdle
        (idleRun o true)).hearOctet o true) := by
  have arm : exec (.octetReceived o true) s = execOctetReceived o true s := rfl
  rw [arm, execOctetReceived, if_pos active]

theorem State.hearOctet_stores_iff {s : State} {f : OpenFrame} {hi : Octet}
    (phase : s.rx.phase = .check f (some hi)) (lo : Octet) :
    (s.hearOctet lo true).rx.frames.length = s.rx.frames.length + 1 ↔ f.crc = word16 hi lo := by
  have checks : s.hearOctet lo true = s.checkOctet lo f (some hi) := by
    simp [State.hearOctet, phase]
  rw [checks, State.checkOctet_stores_iff]

/-- A second CRC octet adds a complete frame exactly when the two octets are the frame's CRC. -/
theorem exec_octetReceived_stores_iff {s t : State} {f : OpenFrame} {hi lo : Octet}
    (active : s.linkActive = true) (phase : s.rx.phase = .check f (some hi))
    (h : exec (.octetReceived lo true) s = .next t) :
    t.rx.frames.length = s.rx.frames.length + 1 ↔ crc (f.length :: f.octets) = hi ++ lo := by
  rw [exec_octetReceived_of_linkActive active] at h
  cases h
  obtain ⟨frames, echo, checking⟩ :=
    State.compareOctet_check phase (fun x => octetLevels lo true == octetLevels x true)
      (idleRun lo true)
  rw [← frames]
  exact State.hearOctet_stores_iff (f := { f with echo := echo }) checking lo

/-- Settles O39: the register by the recursion of `crc`, the octets of a colliding frame by `CurrentKept`,
and the test at arrival by the two outcomes of the second CRC octet. -/
theorem crcIsTheCheckOfTheFrame : Obligations.CrcIsTheCheckOfTheFrame := by
  refine ⟨rfl, crc_concat, crcShift_eq_ite_getLsbD, crc_check_octets, ?built, ?collides, ?arrives⟩
  case built =>
    intro s source n payload
    rfl
  case collides =>
    intro s t f g current collided current'
    obtain ⟨f', before, octets⟩ := exec_collision_currentKept collided g current'
    rw [current] at before
    cases before
    exact octets
  case arrives =>
    intro s t f hi lo active phase heard
    exact exec_octetReceived_stores_iff active phase heard

end Sys2Proof.Machine

namespace Sys2Proof.Machine

/-! ### A frame lost at its last attempt takes a lapsed claim with it (R91, R92, R181) -/

namespace LapsedFrame

/-- A SEATED placement, whose claim has lapsed. -/
def placement : Placement :=
  { tag := 1, target := { wall := 0, course := 0, pos := 0 }, cells := [5], limit := 1,
    state := .seated, reason := none, yields := 0, blocking := none, missing := none,
    overrun := false, reportOwed := false, supportDue := none, motion := .stopped, holdoff := none }

/-- The claim of the placement, its lapsed mark set. -/
def claim : OwnClaim :=
  { number := 0, tag := 1, state := .seated, cells := [5], precedence := 3, lastSend := some 0,
    refreshTaken := false, settleDue := none, decision := .notDue, announce := .nothing,
    abandoned := false, lapsed := true }

/-- The claim's CLAIM frame, being sent with no retry to follow. -/
def frame : CurrentFrame :=
  { source := .claim 0 false, octets := [0], sent := 0, collisions := 0, phase := .sending,
    lastAttempt := true }

/-- A station in LEAVING that sends the frame, CLAIM_LAPSE present for the claim; a collision comes. -/
def before : State :=
  { State.reset with
    site := { State.reset.site with state := .leaving }
    admission := { queue := [placement], supportLimit := 0 }
    claims := { own := [claim], counter := 1, peers := [] }
    stop :=
      { State.reset.stop with
        causes := { CauseSet.empty with stability := true, claimLapse := true } }
    tx := { urgent := [], bulk := [], current := some frame, lastFail := none }
    pending := [.collision] }

/-- The part after the collision. -/
def after : State := (before.withPending []).collide frame

theorem step_before : step before = .next after := rfl

theorem bounded_before : before.Bounded := by
  refine ⟨?_, ?_, ?_, ⟨?_, fun station => ?_, ?_⟩, ?_⟩
  · unfold State.WithinCapacity; decide
  · unfold State.MapBounded; decide
  · unfold State.StoreSound; decide
  · decide
  · exact Nat.zero_le 2
  · exact List.Pairwise.nil
  · decide

theorem admissionSound_before : before.AdmissionSound := by
  unfold State.AdmissionSound; decide

theorem claimsServe_before : before.ClaimsServe := by
  refine ⟨fun c hc _ => ⟨placement, by simp [before], ?_⟩, by decide, by decide, by decide,
    by decide, ?_⟩
  · obtain rfl : c = claim := by simpa [before] using hc
    exact ⟨rfl, rfl⟩
  · intro i frame transfer
    simp [before, State.reset] at transfer

theorem causesTrue_before : before.CausesTrue := by
  unfold State.CausesTrue; decide

/-- No claim is left, and CLAIM_LAPSE is still present. -/
theorem not_causesTrue_after : ¬ after.CausesTrue := by
  rintro ⟨-, -, lapse, -, -⟩
  have present : after.stop.causes.claimLapse = true := by decide
  obtain ⟨c, member, -⟩ := lapse.mp present
  have none_left : after.claims.own = [] := by decide
  simp [none_left] at member

end LapsedFrame

/-- Refutes O53: a CLAIM frame at its last attempt, of a claim that has lapsed, meets a collision; the
claim is deleted and CLAIM_LAPSE stays. -/
theorem not_causesStayTrue : ¬ Obligations.CausesStayTrue := fun stay =>
  LapsedFrame.not_causesTrue_after
    (stay _ _ LapsedFrame.bounded_before LapsedFrame.admissionSound_before
      LapsedFrame.claimsServe_before LapsedFrame.causesTrue_before LapsedFrame.step_before)

end Sys2Proof.Machine

namespace Sys2Proof.Machine

/-! ### What the invariants read of a record -/

/-- What the invariants read of a placement. -/
def Placement.core (p : Placement) : Octet × Slot × PlacementState := (p.tag, p.target, p.state)

/-- An own claim without its announce field and refresh mark, which no invariant reads. -/
def OwnClaim.core (c : OwnClaim) : OwnClaim := { c with announce := .nothing, refreshTaken := false }

/-- What the invariants read of a slot record. -/
def SlotRecord.core (r : SlotRecord) : Slot × Adhesive × Bool := (r.slot, r.state, r.own)

/-- A WET record reads a maturity below its class's threshold. -/
def State.Unripe (s : State) (r : SlotRecord) : Prop :=
  ∀ stamp, r.state = .wet stamp →
    maturity (s.wallClass r.slot.wall).accum stamp < (s.wallClass r.slot.wall).threshold

/-! ### The moves of the part -/

/-- A change of the course map or of a gap flag, of those that R22 tells the admission controller. -/
inductive MapStep : State → State → Prop
  /-- A record is made, as a peer's and within the bound of R11, or changes and stays as ready. -/
  | put (s : State) (r : SlotRecord) (unripe : s.Unripe r)
      (new : s.recordAt r.slot = none →
        r.own = false ∧ s.map.records.length < Config.peerInsertLimit
          ∧ (s.wall r.slot.wall).solidHeight ≤ r.slot.course
          ∧ (s.wall r.slot.wall).definition.isSome = true)
      (old : ∀ x, s.recordAt r.slot = some x → x.own = r.own ∧ (x.isSet = true → r.isSet = true)) :
      MapStep s (s.putRecord r)
  /-- A defined wall's solid height rises. -/
  | raise (s : State) (w h : Nat) (defined : (s.wall w).definition.isSome = true)
      (higher : (s.wall w).solidHeight < h) : MapStep s (s.raiseHeight w h)
  /-- A gap flag is set, with the drop mark of the wall's window. -/
  | gap (s : State) (w : Nat) :
      MapStep s (s.mapWall w fun p =>
        { p with gap := true, window := p.window.map fun x => { x with dropMark := true } })

/-- A change by which an announced placement loses a gate that R53 names. -/
inductive Loses : State → State → Prop
  /-- A cause joins. -/
  | cause (s : State) (c : Cause) (absent : s.stop.causes.has c = false) (other : c ≠ .claimConflict)
      (platform : c ≠ .stability) : Loses s (s.causeJoins c)
  /-- CLAIM_CONFLICT joins and is named. -/
  | conflict (s : State) (station : Nat) (absent : s.stop.causes.claimConflict = false) :
      Loses s ((s.causeJoins .claimConflict).nameConflict station)
  /-- The platform leaves CALM, or becomes HALTED. -/
  | stability (s : State) (new : Stability) (change : s.monitor.state ≠ new)
      (lost : s.monitor.state = .calm ∨ new = .halted)
      (joined : s.site.state.onSite = true ∨ new = .halted) :
      Loses s ((s.writeStability new).stabilityCause new)
  /-- View doubt turns on. -/
  | doubt (s : State) (due : LocalTime) :
      Loses s { s with notice := { s.notice with doubtDue := some due } }

/-- An announced placement whose target is taken, or whose wall has its gap flag set, fails and abandons
its claim (R55). -/
def State.failTaken (s : State) : State :=
  match s.announcedIndex with
  | none => s
  | some i =>
    match s.admission.queue[i]? with
    | none => s
    | some p =>
      if s.readSlot p.target ≠ .vacant then
        (s.abandonTag p.tag).mapPlacement i fun p => p.fail .slotTaken
      else if (s.wall p.target.wall).gap then
        (s.abandonTag p.tag).mapPlacement i fun p => p.fail .viewGap
      else s

/-- A move of placements, own claims and the urgent queue. -/
inductive PlacementTurn : State → State → Prop
  | queue (s : State) (x : List Placement)
      (same : x.map Placement.core = s.admission.queue.map Placement.core) : PlacementTurn s (s.withQueue x)
  | own (s : State) (x : List OwnClaim)
      (same : x.map OwnClaim.core = s.claims.own.map OwnClaim.core) : PlacementTurn s (s.withOwn x)
  | told (s : State) (position : Nat) :
      PlacementTurn s (s.withOwn (s.claims.own.map (OwnClaim.told position)))
  | defers (s : State) (c : OwnClaim) (position : Nat) (member : c ∈ s.claims.own)
      (settled : c.settles s.now = true) :
      PlacementTurn s (s.mapClaim c.number fun c => { c with decision := .waitingFor position })
  | lapses (s : State) (n : Octet) (ready : s.lapseReady n = true) :
      PlacementTurn s (s.mapClaim n fun c => { c with lapsed := true })
  | deletes (s : State) (n : Octet) : PlacementTurn s (s.deleteClaim n)
  | waits (s : State) (i : Nat) (p : Placement) (f : Placement → Placement)
      (place : s.admission.queue[i]? = some p) (head : p.state.waits = true)
      (same : (f p).tag = p.tag ∧ (f p).target = p.target)
      (next : (f p).state.waits = true ∨ (f p).state.terminal = true) :
      PlacementTurn s (s.mapPlacement i f)
  | announces (s : State) (i : Nat) (p : Placement) (opened : s.admissionOpen = true)
      (place : s.admission.queue[i]? = some p) (head : p.state.waits = true)
      (judged : s.judgeHead p = .announce) : PlacementTurn s (s.announceHead i p)
  | retracts (s : State) (i : Nat) (p : Placement) (f : Placement → Placement)
      (place : s.admission.queue[i]? = some p) (announced : p.state.announced = true)
      (same : (f p).tag = p.tag ∧ (f p).target = p.target)
      (next : (f p).state.waits = true ∨ (f p).state.terminal = true) :
      PlacementTurn s ((s.abandonTag p.tag).mapPlacement i f)
  | sends (s : State) (c : OwnClaim) (found : s.ownClaim c.number = some c)
      (kept : c.abandoned = false) (due : LocalTime) (settle : Nat) :
      PlacementTurn s
        (if c.lastSend.isNone then
          (s.mapClaim c.number fun c => c.sentAt due settle).mapTag c.tag .announcing fun p =>
            { p with state := .tentative }
        else s.mapClaim c.number fun c => c.sentAt due settle)
  | drops (s : State) (c : OwnClaim) (found : s.ownClaim c.number = some c)
      (kept : c.abandoned = false) (holdoff : LocalTime) :
      PlacementTurn s ((s.deleteClaim c.number).mapTag c.tag .announcing fun p => p.linkFail holdoff)
  | clears (s : State) (i : Nat) (p : Placement) (f : Placement → Placement)
      (place : s.admission.queue[i]? = some p) (held : p.state.inCells = true)
      (same : (f p).tag = p.tag ∧ (f p).target = p.target) (next : (f p).state.terminal = true) :
      PlacementTurn s ((s.clearClaim p.tag).mapPlacement i f)
  | places (s : State) (p : Placement) (room : s.admission.queue.length < Config.queueCapacity)
      (fresh : s.liveTag p.tag = false) (defined : (s.wall p.target.wall).definition.isSome = true)
      (queued : p.state = .queued) : PlacementTurn s (s.withQueue (s.admission.queue ++ [p]))
  | failsAll (s : State) (clear : ∀ p ∈ s.admission.queue, p.state.inCells = false) :
      PlacementTurn s s.abandonAnnounced.failAll

/-- One move that the part makes of itself: what a step can do, said once. No move changes the site state,
a cure class, a wall's definition or the time, and none makes a placement FIRM. -/
inductive Turn : State → State → Prop
  | port (s : State) (x : ArmPort)
      (named : ∀ i frame, x.transfer = some { item := .placement i true, frame := frame } →
        s.port.transfer = x.transfer
          ∨ ∃ p, s.admission.queue[i]? = some p ∧ p.state.terminal = true) :
      Turn s { s with port := x }
  | supply (s : State) (below : Bool) : Turn s { s with supply := { s.supply with belowWarn := below } }
  | site (s : State) (x : SiteControl) (same : x.state = s.site.state) : Turn s { s with site := x }
  | rx (s : State) (x : Receiver) (fits : x.fill ≤ s.rx.fill ∨ x.fill ≤ Config.storeCapacity) :
      Turn s { s with rx := x }
  | tx (s : State) (x : Transmitter)
      (urgent : x.urgent.length ≤ s.tx.urgent.length ∨ x.urgent.length ≤ Config.urgentCapacity)
      (bulk : x.bulk.length ≤ s.tx.bulk.length ∨ x.bulk.length ≤ Config.bulkCapacity) :
      Turn s { s with tx := x }
  | notice (s : State) (x : NoticeUnit)
      (doubt : s.notice.doubtDue = none → x.doubtDue = none) : Turn s { s with notice := x }
  | monitor (s : State) (x : Monitor) (same : x.state = s.monitor.state)
      (gusts : x.gusts.length ≤ s.monitor.gusts.length ∨ x.gusts.length ≤ 12) :
      Turn s { s with monitor := x }
  | freeCount (s : State) (n : Nat) : Turn s { s with freeCount := n }
  | cure (s : State) (x : CureUnit) (same : x.classes = s.cure.classes) : Turn s { s with cure := x }
  | walls (s : State) (x : List WallPlace)
      (same : ∀ w, (x.getD w .absent).definition = (s.wall w).definition
        ∧ (x.getD w .absent).solidHeight = (s.wall w).solidHeight
        ∧ ((x.getD w .absent).gap = true → (s.wall w).gap = true)) : Turn s { s with walls := x }
  | fault (s : State) (x : Option DoubleLay) : Turn s { s with map := { s.map with fault := x } }
  | records (s : State) (x : List SlotRecord)
      (same : x.map SlotRecord.core = s.map.records.map SlotRecord.core) : Turn s (s.withRecords x)
  | lstop (s : State) (low : Bool) (differ filter : Nat) :
      Turn s { s with
        stop := { s.stop with lstopStop := low, lstopDiffer := differ, lstopFilter := filter } }
  | supportLimit (s : State) (n : Nat) :
      Turn s { s with admission := { s.admission with supportLimit := n } }
  | settles (s : State) (i : Nat) (frame : List Octet)
      (shown : s.port.transfer = some { item := .placement i true, frame := frame }) :
      Turn s ((s.withTransfer false none).withQueue (s.admission.queue.eraseIdx i))
  -- Placements, claims and the peer table.
  | placing (s t : State) (h : PlacementTurn s t) : Turn s t
  | peers (s : State) (x : List PeerEntry) (n : Octet)
      (sound : PeersSound s.claims.peers → PeersSound x) :
      Turn s { s with claims := { s.claims with peers := x, counter := n } }
  | seats (s : State) (i : Nat) (p : Placement) (place : s.admission.queue[i]? = some p)
      (firm : p.state = .firm) :
      Turn s (((s.ownInsert p.target).seatClaim p.tag).mapPlacement i Placement.seat)
  -- Gates lost and regained, and the stop record.
  | loses (s u : State) (h : Loses s u) : Turn s u.yieldAnnounced
  | leaves (s : State) (c : Cause) (platform : c ≠ .stability) : Turn s (s.causeLeaves c)
  | renames (s : State) (station : Nat) (present : s.stop.causes.claimConflict = true) :
      Turn s (s.nameConflict station)
  | relaxes (s : State) (new : Stability) (paused : s.monitor.state ≠ .calm) (better : new ≠ .halted)
      (change : s.monitor.state ≠ new) (joined : s.site.state.onSite = true) :
      Turn s ((s.writeStability new).stabilityCause new)
  | releases (s : State) (empty : s.stop.causes.isEmpty = true) :
      Turn s { s with stop := s.stop.release }
  -- The course map.
  | maps (s u : State) (h : MapStep s u) : Turn s u.failTaken

/-- Moves made one after another. -/
def Turns : State → State → Prop := Relation.ReflTransGen Turn

namespace Turns

variable {s t u : State}

theorem refl (s : State) : Turns s s := Relation.ReflTransGen.refl

theorem one (h : Turn s t) : Turns s t := Relation.ReflTransGen.single h

theorem placing (h : PlacementTurn s t) : Turns s t := one (.placing s t h)

theorem trans (h : Turns s t) (k : Turns t u) : Turns s u := Relation.ReflTransGen.trans h k

theorem ite {p : Prop} [Decidable p] (h : Turns s t) (k : Turns s u) :
    Turns s (if p then t else u) := by
  split <;> assumption

theorem foldl {α : Type} {f : State → α → State} (h : ∀ s a, Turns s (f s a)) (xs : List α)
    (s : State) : Turns s (xs.foldl f s) := by
  induction xs generalizing s with
  | nil => exact refl s
  | cons x xs ih => exact (h s x).trans (ih (f s x))

/-- A property that every move keeps is kept by all of them in turn. -/
theorem keeps {P : State → Prop} (each : ∀ s t, Turn s t → P s → P t) (h : Turns s t) (p : P s) :
    P t := by
  induction h with
  | refl => exact p
  | tail _ last ih => exact each _ _ last ih

end Turns

/-! ### Reports owed -/

section
variable (s : State)

/-- A change of the port that keeps its transfer. -/
theorem Turns.port {x : ArmPort} (same : x.transfer = s.port.transfer) :
    Turns s { s with port := x } :=
  .one (.port s x fun _ _ _ => .inl same.symm)

theorem State.oweSite_turns : Turns s s.oweSite := Turns.port s rfl
theorem State.oweStop_turns : Turns s s.oweStop := Turns.port s rfl
theorem State.oweStability_turns : Turns s s.oweStability := Turns.port s rfl
theorem State.oweSiteIf_turns (c : Bool) : Turns s (s.oweSiteIf c) := Turns.port s rfl
theorem State.produce_turns (k : Octet) (c : AnswerCode) (x : AnswerContent) :
    Turns s (s.produce k c x) := Turns.port s rfl
theorem State.taken_turns (r : Instr) : Turns s (s.taken r) := Turns.port s rfl
theorem State.loseRequest_turns : Turns s s.loseRequest := Turns.port s rfl

theorem State.withTransfer_none_turns (selected : Bool) : Turns s (s.withTransfer selected none) :=
  .one (.port s _ fun i frame h => by cases h)

/-! ### Own claims and the urgent queue -/

theorem OwnClaim.map_core {f : OwnClaim → OwnClaim} (same : ∀ c, (f c).core = c.core)
    (l : List OwnClaim) : (l.map f).map OwnClaim.core = l.map OwnClaim.core := by
  simp [List.map_map, Function.comp_def, same]

/-- A change of announce fields and refresh marks alone. -/
theorem State.mapClaim_turns (n : Octet) {f : OwnClaim → OwnClaim} (same : ∀ c, (f c).core = c.core) :
    Turns s (s.mapClaim n f) :=
  .placing (.own s _ (OwnClaim.map_core (fun c => by split <;> simp [same]) _))

theorem State.withUrgent_turns {l : List UrgentRecord}
    (fits : l.length ≤ s.tx.urgent.length ∨ l.length ≤ Config.urgentCapacity) :
    Turns s (s.withUrgent l) := .one (.tx s _ fits (.inl le_rfl))

theorem State.withBulk_turns {l : List BulkRecord}
    (fits : l.length ≤ s.tx.bulk.length ∨ l.length ≤ Config.bulkCapacity) :
    Turns s (s.withBulk l) := .one (.tx s _ (.inl le_rfl) fits)

theorem State.withCurrent_turns (f : Option CurrentFrame) : Turns s (s.withCurrent f) :=
  .one (.tx s _ (.inl le_rfl) (.inl le_rfl))

theorem State.pushUrgent_turns {r : UrgentRecord} (free : s.urgentFree = true) :
    Turns s (s.pushUrgent r) :=
  s.withUrgent_turns (.inr (by simp [State.urgentFree] at free; simp; omega))

theorem State.queueClaim_turns {n : Octet} (free : s.urgentFree = true) : Turns s (s.queueClaim n) :=
  have marked : Turns s (s.mapClaim n fun c => { c with announce := .queued }) :=
    s.mapClaim_turns n fun _ => rfl
  marked.trans (State.pushUrgent_turns _ free)

theorem State.offerUrgent_turns (c : OwnClaim) : Turns s (s.offerUrgent c) := by
  unfold State.offerUrgent
  split
  · next h => exact s.queueClaim_turns (by simp at h; exact h.2)
  · exact .refl s

theorem State.serveOwed_turns : Turns s s.serveOwed := Turns.foldl State.offerUrgent_turns _ _

theorem State.queueRelease_turns (n : Octet) : Turns s (s.queueRelease n) := by
  refine s.serveOwed_turns.trans ?_
  unfold State.queueRelease
  simp only
  split
  · next h => exact State.pushUrgent_turns _ h
  · exact .refl _

theorem State.requestAnnounce_turns (n : Octet) : Turns s (s.requestAnnounce n) := by
  unfold State.requestAnnounce
  split
  · exact .refl s
  · refine Turns.ite (s.serveOwed_turns.trans ?_) (.refl s)
    simp only
    split
    · next h => exact State.queueClaim_turns _ h
    · exact State.mapClaim_turns _ n fun _ => rfl

theorem State.refreshContested_turns : Turns s s.refreshContested :=
  Turns.foldl State.requestAnnounce_turns _ _

theorem State.dismissClaim_turns (c : OwnClaim) : Turns s (s.dismissClaim c) :=
  .ite ((Turns.placing (.deletes s _)).trans (State.queueRelease_turns _ _)) (.placing (.deletes s _))

/-! ### Head evaluation -/

theorem State.evalHeads_turns (k : Nat) (opened : s.admissionOpen = true) :
    Turns s (State.evalHeads k s) := by
  induction k generalizing s with
  | zero => exact .refl s
  | succ k ih =>
    unfold State.evalHeads
    split
    · exact .refl s
    · next i hi =>
      obtain ⟨before, p, after, hq, rfl, hp, -⟩ := State.headIndex_eq.mp hi
      have place : s.admission.queue[before.length]? = some p := by rw [hq]; simp
      rw [place]
      split
      · contradiction
      · next q same =>
        obtain rfl : p = q := by simpa using same
        split
        · next r _ =>
          refine (Turns.placing (.waits s _ p _ place hp ⟨rfl, rfl⟩ (.inr rfl))).trans (ih _ ?_)
          rw [State.mapPlacement_split hq]
          unfold State.admissionOpen at opened ⊢
          rw [hq] at opened
          have closed : (p.changedTo (p.fail r)).state.closes = false := rfl
          simp only [State.withQueue, List.any_append, List.any_cons, closed] at opened ⊢
          cases p.state.closes <;> simp_all
        · exact .placing (.waits s _ p _ place hp ⟨rfl, rfl⟩ (.inl rfl))
        · exact .placing (.waits s _ p _ place hp ⟨rfl, rfl⟩ (.inl rfl))
        · next judged =>
          exact (Turns.placing (.announces s _ p opened place hp judged)).trans
            (State.refreshContested_turns _)

theorem State.evalHead_turns : Turns s s.evalHead := by
  unfold State.evalHead
  split
  · next opened => exact State.evalHeads_turns _ _ opened
  · exact .refl s

/-! ### Yields, causes and conflict re-evaluation -/

/-- The announced placement found is announced. -/
theorem State.announced_of_announcedIndex {s : State} {i : Nat} {p : Placement}
    (found : s.announcedIndex = some i) (place : s.admission.queue[i]? = some p) :
    p.state.announced = true := by
  obtain ⟨lt, holds, -⟩ := List.findIdx?_eq_some_iff_getElem.mp found
  rw [List.getElem?_eq_getElem lt, Option.some.injEq] at place
  exact place ▸ holds

theorem State.yieldAnnounced_turns : Turns s s.yieldAnnounced := by
  unfold State.yieldAnnounced
  split
  · exact .refl s
  · next i found =>
    split
    · exact .refl s
    · next p place =>
      exact (Turns.placing (.retracts s i p _ place (State.announced_of_announcedIndex found place)
        ⟨rfl, rfl⟩ (.inl rfl))).trans (.one (.freeCount _ _))

theorem State.blockingTest_turns : Turns s s.blockingTest := by
  unfold State.blockingTest
  repeat' split
  all_goals first
    | exact .refl s
    | exact s.yieldAnnounced_turns

theorem State.conflictTest_turns : Turns s s.conflictTest := by
  unfold State.conflictTest
  split
  · exact .one (.leaves s _ (by decide))
  · split
    · next present => exact .one (.renames s _ present)
    · next absent => exact .one (.loses s _ (.conflict s _ (by simpa using absent)))

theorem State.reevaluate_turns : Turns s s.reevaluate :=
  ((s.blockingTest_turns.trans (State.conflictTest_turns _)).trans
    (State.refreshContested_turns _)).trans (State.evalHead_turns _)

/-- With no placement announced nothing yields. -/
theorem State.yieldAnnounced_of_none {s : State} (none_announced : s.announcedIndex = none) :
    s.yieldAnnounced = s := by
  simp [State.yieldAnnounced, none_announced]

/-- After a gate is lost the announced placement yields, and moves follow. -/
theorem State.gateLost_turns : Turns s.yieldAnnounced s.gateLost := by
  unfold State.gateLost
  split
  · exact State.reevaluate_turns _
  · next none_announced =>
    rw [State.yieldAnnounced_of_none none_announced]
    exact s.evalHead_turns

variable {s} in
/-- A gate is lost, and that is handed on. -/
theorem Loses.turns {u : State} (h : Loses s u) : Turns s u.gateLost :=
  (Turns.one (.loses s u h)).trans u.gateLost_turns

theorem State.addCause_turns (c : Cause) (other : c ≠ .claimConflict) (platform : c ≠ .stability) :
    Turns s (s.addCause c) := by
  unfold State.addCause
  split
  · exact .refl s
  · next absent => exact Loses.turns (.cause s c (by simpa using absent) other platform)

theorem State.dropCause_turns (c : Cause) (platform : c ≠ .stability) : Turns s (s.dropCause c) :=
  .ite ((Turns.one (.leaves s c platform)).trans (State.evalHead_turns _)) (.refl s)

theorem State.followCause_turns (c : Cause) (holds : Bool) (other : c ≠ .claimConflict)
    (platform : c ≠ .stability) : Turns s (s.followCause c holds) :=
  .ite (s.addCause_turns c other platform) (s.dropCause_turns c platform)

theorem State.judgeLapse_turns : Turns s s.judgeLapse :=
  .ite (s.addCause_turns _ (by decide) (by decide)) (s.dropCause_turns _ (by decide))

/-! ### View doubt, view lag and stability -/

theorem State.startDoubt_turns : Turns s s.startDoubt := by
  unfold State.startDoubt
  simp only
  split
  · next on =>
    exact .one (.notice s _ fun off => by simp [off] at on)
  · exact (s.oweSite_turns).trans (Loses.turns (.doubt s.oweSite (s.after s.cfg.hold)))

theorem State.judgeLagAt_turns (fill : Nat) : Turns s (s.judgeLagAt fill) := by
  have marked (lag : Bool) : Turns s { s with rx := { s.rx with lag := lag } } :=
    .one (.rx s _ (.inl le_rfl))
  exact .ite (.refl s) (((marked _).trans (State.oweSite_turns _)).trans (State.evalHead_turns _))

theorem State.judgeLag_turns : Turns s s.judgeLag := s.judgeLagAt_turns _

theorem State.withDwell_turns (due : Option LocalTime) : Turns s (s.withDwell due) :=
  .one (.monitor s _ rfl (.inl le_rfl))

theorem State.setStability_turns (new : Stability)
    (joined : s.site.state.onSite = true ∨ new = .halted) : Turns s (s.setStability new) := by
  unfold State.setStability
  split
  · exact .refl s
  · next change =>
    split
    · next lost => exact Loses.turns (.stability s new change (by simpa using lost) joined)
    · next kept =>
      obtain ⟨paused, better⟩ : s.monitor.state ≠ .calm ∧ new ≠ .halted := by simpa using kept
      exact (Turns.one (.relaxes s new paused better change (joined.resolve_right better))).trans
        (State.evalHead_turns _)

theorem State.evaluateIfJoined_turns : Turns s s.evaluateIfJoined := by
  unfold State.evaluateIfJoined
  split
  · next joined =>
    have dwelt (due : Option LocalTime) (new : Stability) :
        Turns s ((s.withDwell due).setStability new) :=
      (s.withDwell_turns due).trans (State.setStability_turns _ new (.inl joined))
    unfold State.evaluateStability
    split
    · exact dwelt _ _
    · split
      · exact .ite (dwelt _ _) (.refl s)
      · exact .ite (s.setStability_turns _ (.inl joined)) (.refl s)
      · exact .ite (dwelt _ _) (s.withDwell_turns _)
  · exact .refl s

end

end Sys2Proof.Machine

namespace Sys2Proof.Machine

/-! ### Walls and the course map -/

section
variable (s : State)

theorem getD_map_of_default {α : Type} (f : α → α) (a : α) (same : f a = a) (l : List α) (w : Nat) :
    (l.map f).getD w a = f (l.getD w a) := by
  by_cases lt : w < l.length <;> simp [List.getD, lt, same]

/-- A wall's place after the plan is rewritten at a wall: that wall's place is rewritten if it exists. -/
theorem State.wall_mapWall (w v : Nat) (f : WallPlace → WallPlace) :
    (s.mapWall w f).wall v = if w = v ∧ v < s.walls.length then f (s.wall v) else s.wall v := by
  show (s.walls.modify w f).getD v .absent = _
  simp only [List.getD, List.getElem?_modify, State.wall]
  by_cases same : w = v
  · by_cases lt : v < s.walls.length <;> simp [same, lt]
  · simp [same]

/-- A place of the wall plan is rewritten, its definition, solid height and gap flag kept. -/
theorem State.mapWall_turns (w : Nat) {f : WallPlace → WallPlace}
    (same : (f (s.wall w)).definition = (s.wall w).definition
      ∧ (f (s.wall w)).solidHeight = (s.wall w).solidHeight
      ∧ ((f (s.wall w)).gap = true → (s.wall w).gap = true)) : Turns s (s.mapWall w f) := by
  refine .one (.walls s _ fun v => ?_)
  change ((s.mapWall w f).wall v).definition = _ ∧ ((s.mapWall w f).wall v).solidHeight = _
    ∧ (((s.mapWall w f).wall v).gap = true → _)
  rw [s.wall_mapWall w v f]
  split
  · next h => obtain ⟨rfl, -⟩ := h; exact same
  · exact ⟨rfl, rfl, id⟩

theorem State.offSite_turns : Turns s { s with walls := s.walls.map WallPlace.offSite } := by
  refine .one (.walls s _ fun w => ?_)
  rw [getD_map_of_default WallPlace.offSite .absent rfl]
  exact ⟨rfl, rfl, id⟩

theorem State.failTaken_turns : Turns s s.failTaken := by
  unfold State.failTaken
  split
  · exact .refl s
  · next i found =>
    split
    · exact .refl s
    · next p place =>
      have fails (r : FailReason) :
          Turns s ((s.abandonTag p.tag).mapPlacement i fun p => p.fail r) :=
        .placing (.retracts s i p _ place (State.announced_of_announcedIndex found place) ⟨rfl, rfl⟩
          (.inr rfl))
      exact .ite (fails _) (.ite (fails _) (.refl s))

/-- A change of the map that is told fails a placement whose target is taken, and moves follow. -/
theorem State.mapChanged_turns_failTaken : Turns s.failTaken s.mapChanged := by
  unfold State.failTaken State.mapChanged
  cases s.announcedIndex with
  | none => exact s.evalHead_turns
  | some i =>
    cases place : s.admission.queue[i]? with
    | none => simpa [place] using Turns.refl s
    | some p =>
      simp only [place]
      by_cases taken : s.readSlot p.target ≠ .vacant
      · simpa only [if_pos taken] using State.reevaluate_turns _
      · by_cases gap : (s.wall p.target.wall).gap = true
        · simpa only [if_neg taken, if_pos gap] using State.reevaluate_turns _
        · simpa only [if_neg taken, if_neg gap] using Turns.refl s

theorem State.mapChanged_turns : Turns s s.mapChanged :=
  s.failTaken_turns.trans s.mapChanged_turns_failTaken

variable {s} in
/-- A change of the map is told. -/
theorem MapStep.turns {u : State} (h : MapStep s u) : Turns s u.mapChanged :=
  (Turns.one (.maps s u h)).trans u.mapChanged_turns_failTaken

theorem State.retire_turns (w k : Nat) : Turns s (State.retire w k s) := by
  induction k generalizing s with
  | zero => exact .refl s
  | succ k ih =>
    unfold State.retire
    split
    · exact .refl s
    · next d defined =>
      exact .ite ((MapStep.raise s w _ (by simp [defined]) (Nat.lt_succ_self _)).turns.trans (ih _))
        (.refl s)

theorem State.checkSlot_turns (slot : Slot) : Turns s (s.checkSlot slot) :=
  .ite (s.retire_turns _ _) (.refl s)

theorem State.applyHeight_turns (w carried : Nat) (d : WallDef)
    (defined : (s.wall w).definition = some d) : Turns s (s.applyHeight w d carried) := by
  unfold State.applyHeight
  simp only
  split
  · next higher =>
    exact (MapStep.raise s w _ (by simp [defined]) higher).turns.trans (State.retire_turns _ _ _)
  · exact .refl s

variable {s} in
theorem State.recordChanged_turns {r : SlotRecord} (h : MapStep s (s.putRecord r)) :
    Turns s (s.recordChanged r) :=
  .ite (h.turns.trans (State.checkSlot_turns _ _)) h.turns

theorem State.doubleLay_turns (slot : Slot) (peer : Option Nat) : Turns s (s.doubleLay slot peer) :=
  (Turns.one (.fault s _)).trans (State.oweSite_turns _)

theorem State.dropInsert_turns (w : Nat) : Turns s (s.dropInsert w) := by
  unfold State.dropInsert
  simp only
  split
  · next set => exact s.mapWall_turns w ⟨rfl, rfl, fun _ => set⟩
  · exact (s.oweSite_turns).trans (MapStep.gap s.oweSite w).turns

/-- A record made from a carried maturity is not ripe (R16, R17). -/
theorem CureClass.maturity_stampFor (c : CureClass) {m : Nat} (bound : m < 2 ^ 24) :
    maturity c.accum (c.stampFor m) = m := by
  have : (BitVec.ofNat 32 m).toNat = m := by simp; omega
  rw [maturity, CureClass.stampFor, sub_sub_cancel, this]

variable {s} in
theorem State.unripe_of_carried {r : SlotRecord} {m : Nat} (bound : m < 2 ^ 24)
    (state : r.state = (s.wallClass r.slot.wall).carried m) : s.Unripe r := by
  intro stamp wet
  rw [state, CureClass.carried] at wet
  split at wet
  · cases wet
  · next below =>
    obtain rfl : CureClass.stampFor _ m = stamp := by simpa using wet
    rw [CureClass.maturity_stampFor _ bound]
    simp [CureClass.carriesSet] at below
    omega

variable {s} in
theorem State.insertPeer_turns {slot : Slot} {sender m : Nat} (bound : m < 2 ^ 24)
    (free : s.recordAt slot = none) (above : (s.wall slot.wall).solidHeight ≤ slot.course)
    (defined : (s.wall slot.wall).definition.isSome = true) : Turns s (s.insertPeer slot sender m) := by
  unfold State.insertPeer
  split
  · next room =>
    exact State.recordChanged_turns (.put s _ (State.unripe_of_carried bound rfl)
      (fun _ => ⟨rfl, room, above, defined⟩) fun x found => by simp [free] at found)
  · exact s.dropInsert_turns _

theorem State.recordAt_slot {s : State} {slot : Slot} {r : SlotRecord}
    (found : s.recordAt slot = some r) : r.slot = slot := (mem_of_findRecord found).2

theorem State.mem_records_of_recordAt {s : State} {slot : Slot} {r : SlotRecord}
    (found : s.recordAt slot = some r) : r ∈ s.map.records := (mem_of_findRecord found).1

/-- A record that stands takes another state: SET, or one that is not ripe while it was WET. -/
theorem MapStep.change {s : State} {slot : Slot} {r : SlotRecord} {x : Adhesive}
    (found : s.recordAt slot = some r) (unripe : s.Unripe { r with state := x })
    (ready : r.isSet = true → x = .set) : MapStep s (s.putRecord { r with state := x }) := by
  obtain rfl := State.recordAt_slot found
  refine .put s _ unripe (fun gone => ?_) fun y same => ?_
  · exact absurd (found.symm.trans gone) (by simp)
  · obtain rfl : r = y := Option.some.inj (found.symm.trans same)
    exact ⟨rfl, fun set => by simp [SlotRecord.isSet, ready set]⟩

theorem MapStep.turnSet {s : State} {slot : Slot} {r : SlotRecord}
    (found : s.recordAt slot = some r) : MapStep s (s.putRecord { r with state := .set }) :=
  MapStep.change found (fun _ wet => nomatch wet) fun _ => rfl

variable {s} in
theorem State.mergePeer_turns {slot : Slot} {r : SlotRecord} {m : Nat} (bound : m < 2 ^ 24)
    (found : s.recordAt slot = some r) : Turns s (s.mergePeer r m) := by
  unfold State.mergePeer
  simp only
  split
  · exact .refl s
  · next stamp wet =>
    split
    · exact State.recordChanged_turns (.turnSet found)
    · next below =>
      refine .ite (State.recordChanged_turns (.change found (State.unripe_of_carried bound ?_) ?_))
        (.refl s)
      · simp [CureClass.carried, below]
      · intro set; simp [SlotRecord.isSet, wet] at set

theorem State.applyEntry_turns (w sender : Nat) (e : LaidEntry) :
    Turns s (State.applyEntry w sender s e) := by
  have bound := e.maturity.isLt
  unfold State.applyEntry
  split
  · exact .refl s
  · next d defined =>
    simp only
    split
    · exact .refl s
    · next outside =>
      simp at outside
      split
      · next free =>
        exact State.insertPeer_turns bound free outside.1 (by simp [defined])
      · next r found =>
        exact .ite (s.doubleLay_turns _ _) (State.mergePeer_turns bound found)

theorem State.applyLaid_turns (sender w height : Nat) (l : List LaidEntry) :
    Turns s (s.applyLaid sender w height l) := by
  unfold State.applyLaid
  split
  · exact .refl s
  · next d defined =>
    exact (s.applyHeight_turns w height d defined).trans
      (Turns.foldl (fun t e => t.applyEntry_turns w sender e) _ _)

theorem State.walkSlot_turns (slot : Slot) : Turns s (s.walkSlot slot) := by
  unfold State.walkSlot
  split
  · exact .refl s
  · next r found =>
    split
    · exact .refl s
    · exact .ite (State.recordChanged_turns (.turnSet found)) (.refl s)

theorem State.sweep_turns : Turns s s.sweep := Turns.foldl State.walkSlot_turns _ _

theorem State.conversionWalk_turns (k : Nat) : Turns s (s.conversionWalk k) :=
  Turns.foldl State.walkSlot_turns _ _

/-! ### Receiver -/

theorem State.withRx_turns {x : Receiver}
    (fits : x.fill ≤ s.rx.fill ∨ x.fill ≤ Config.storeCapacity) : Turns s (s.withRx x) :=
  .one (.rx s x fits)

theorem State.withIdle_turns (n : Nat) : Turns s (s.withIdle n) := s.withRx_turns (.inl le_rfl)

theorem State.withPhase_turns {p : RxPhase} (fits : p.written ≤ s.rx.phase.written) :
    Turns s (s.withPhase p) := s.withRx_turns (.inl (Nat.add_le_add_left fits _))

theorem State.dropFrame_turns {p : RxPhase} (fits : p.written = 0) : Turns s (s.dropFrame p) :=
  ((s.withPhase_turns (fits ▸ Nat.zero_le _)).trans (State.judgeLag_turns _)).trans
    (State.startDoubt_turns _)

theorem State.dropStatus_turns : Turns s s.dropStatus :=
  Turns.trans (.ite (s.judgeLagAt_turns _) (.refl s)) (State.dropFrame_turns _ rfl)

theorem State.arrive_turns {f : OpenFrame} {first : Option Octet} (phase : s.rx.phase = .check f first) :
    Turns s (s.arrive f) := by
  refine s.withRx_turns (.inl (le_of_eq ?_))
  simp [Receiver.fill, phase, RxPhase.written, StoredFrame.size]

theorem State.hearOctet_turns (octet : Octet) (stopRecessive : Bool) :
    Turns s (s.hearOctet octet stopRecessive) := by
  unfold State.hearOctet
  split
  · exact .refl s
  · exact .refl s
  · next hunts =>
    unfold State.huntOctet
    split
    · exact s.withPhase_turns (Nat.zero_le _)
    · split
      · exact s.dropStatus_turns
      · next room =>
        refine Turns.trans (s.withRx_turns (.inr ?_)) (State.judgeLag_turns _)
        simp only [Receiver.fill, hunts, RxPhase.written] at room ⊢
        omega
  · next echo phase =>
    exact .ite (.ite (s.withPhase_turns (by simp [phase, RxPhase.written])) (s.dropFrame_turns rfl))
      (s.dropFrame_turns rfl)
  · next f phase =>
    refine .ite ?_ (s.dropFrame_turns rfl)
    unfold State.bodyOctet
    split
    · exact s.dropFrame_turns rfl
    · next room =>
      refine Turns.trans (s.withRx_turns (.inr ?_)) (State.judgeLag_turns _)
      have grown : (f.grow octet).written = Config.statusOctets + (f.octets.length + 1) := by
        unfold OpenFrame.grow
        simp only
        split <;> simp [RxPhase.written]
      have before : s.rx.phase.written = Config.statusOctets + f.octets.length := by
        rw [phase]; rfl
      simp only [Receiver.fill, before, grown] at room ⊢
      omega
  · next f first phase =>
    refine .ite ?_ (s.dropFrame_turns rfl)
    unfold State.checkOctet
    split
    · exact s.withPhase_turns (by simp [phase, RxPhase.written])
    · exact .ite (s.arrive_turns phase) (s.dropFrame_turns rfl)

/-! ### Bulk queue -/

theorem State.notice_turns {x : NoticeUnit} (same : x.doubtDue = s.notice.doubtDue) :
    Turns s { s with notice := x } := .one (.notice s x fun off => same.trans off)

theorem State.setAnswer_turns (w : Nat) (a : AnswerState) : Turns s (s.setAnswer w a) :=
  s.mapWall_turns w ⟨rfl, rfl, id⟩

theorem State.pushBulk_turns (r : BulkRecord) (free : s.bulkFree = true) :
    Turns s (s.withBulk (s.tx.bulk ++ [r])) :=
  s.withBulk_turns (.inr (by simp [State.bulkFree] at free; simp; omega))

theorem State.serveSurvey_turns : Turns s s.serveSurvey := by
  unfold State.serveSurvey
  split
  · next ready =>
    have free : s.bulkFree = true := by simp [State.surveyReady] at ready; exact ready.2
    have queued (x : Option PendingSurvey) : Turns s { s with notice := { s.notice with survey := x } } :=
      s.notice_turns rfl
    exact (queued _).trans (State.pushBulk_turns _ .survey free)
  · exact .refl s

theorem State.serveAnswer_turns : Turns s s.serveAnswer := by
  unfold State.serveAnswer
  split
  · next ready =>
    have free : s.bulkFree = true := by simp [State.answerReady] at ready; exact ready.2
    unfold State.queueAnswer
    split
    · exact .refl s
    · next w rest _ =>
      have left : Turns s { s with notice := { s.notice with waitingWalls := rest } } :=
        s.notice_turns rfl
      exact (left.trans (State.pushBulk_turns _ (.answer w none) free)).trans
        (State.setAnswer_turns _ _ _)
  · exact .refl s

theorem State.serveAnnounce_turns : Turns s s.serveAnnounce := by
  unfold State.serveAnnounce
  split
  · next ready =>
    have free : s.bulkFree = true := by simp [State.announceReady] at ready; exact ready.1.2
    unfold State.queueAnnounce
    split
    · exact .refl s
    · exact s.pushBulk_turns _ free
  · exact .refl s

theorem State.serveOlder_turns : Turns s s.serveOlder :=
  s.serveSurvey_turns.trans (Turns.foldl (fun t _ => t.serveAnswer_turns) _ _)

theorem State.serveBulk_turns : Turns s s.serveBulk :=
  s.serveOlder_turns.trans (Turns.foldl (fun t _ => t.serveAnnounce_turns) _ _)

theorem State.oweAnswer_turns (w : Nat) : Turns s (s.oweAnswer w) := by
  have waits (t : State) (l : List Nat) : Turns t { t with notice := { t.notice with waitingWalls := l } } :=
    t.notice_turns rfl
  refine s.serveOlder_turns.trans ?_
  unfold State.oweAnswer
  simp only
  split
  · next free => exact (State.pushBulk_turns _ _ free).trans (State.setAnswer_turns _ _ _)
  · exact (waits _ _).trans (State.setAnswer_turns _ _ _)

theorem State.surveyWall_turns (w : Nat) : Turns s (s.surveyWall w) := by
  unfold State.surveyWall
  split
  · exact s.serveBulk_turns.trans (State.oweAnswer_turns _ _)
  · exact .refl s
  · exact .refl s
  · exact s.mapWall_turns w ⟨rfl, rfl, id⟩

theorem State.surveyed_turns (select : WallSelect) : Turns s (s.surveyed select) := by
  unfold State.surveyed
  split
  · exact .ite (s.surveyWall_turns _) (.refl s)
  · exact Turns.foldl State.surveyWall_turns _ _

theorem State.endAnswer_turns (w : Nat) : Turns s (s.endAnswer w) := by
  have shorter : Turns s (s.withBulk s.tx.bulk.tail) := s.withBulk_turns (.inl (by simp))
  have idle (t : State) : Turns t (t.mapWall w fun p => { p with answer := .idle, again := false }) :=
    t.mapWall_turns w ⟨rfl, rfl, id⟩
  exact shorter.trans (.ite ((idle _).trans (State.oweAnswer_turns _ _)) (idle _))

theorem State.advanceAnswer_turns (w : Nat) (last : Option Slot) :
    Turns s (s.advanceAnswer w last) := by
  unfold State.advanceAnswer
  split
  · next bulk =>
    exact .ite (s.endAnswer_turns w) (s.withBulk_turns (.inl (by simp [bulk])))
  · exact .refl s

theorem State.withRecords_map_turns {f : SlotRecord → SlotRecord} (same : ∀ r, (f r).core = r.core) :
    Turns s (s.withRecords (s.map.records.map f)) :=
  .one (.records s _ (by simp [List.map_map, Function.comp_def, same]))

theorem State.laidSent_turns (w : Nat) (own : List Slot) : Turns s (s.laidSent w own) := by
  unfold State.laidSent
  refine Turns.trans (s.withRecords_map_turns fun r => ?_) (State.mapWall_turns _ w ⟨rfl, rfl, id⟩)
  split <;> rfl

theorem State.surveySent_turns (select : WallSelect) : Turns s (s.surveySent select) := by
  have opens (t : State) (w : Nat) : Turns t (t.openWindow w) := t.mapWall_turns w ⟨rfl, rfl, id⟩
  unfold State.surveySent
  split
  · exact opens s _
  · exact Turns.foldl opens _ _

/-! ### Outcomes of frames -/

theorem State.ownClaim_number {s : State} {n : Octet} {c : OwnClaim} (found : s.ownClaim n = some c) :
    c.number = n := by
  simpa using List.find?_some found

theorem State.claimFrameSent_turns (n : Octet) (gone : Bool) : Turns s (s.claimFrameSent n gone) := by
  unfold State.claimFrameSent
  split
  · exact .refl s
  · split
    · exact .refl s
    · next c found =>
      split
      · exact ((Turns.placing (.deletes s n)).trans (State.queueRelease_turns _ n)).trans
          (State.reevaluate_turns _)
      · next kept =>
        obtain rfl := State.ownClaim_number found
        exact (Turns.placing (.sends s c found (by simpa using kept) s.now s.cfg.settle)).trans
          (State.judgeLapse_turns _)

theorem State.claimFrameLost_turns (n : Octet) (gone : Bool) : Turns s (s.claimFrameLost n gone) := by
  unfold State.claimFrameLost
  split
  · exact .refl s
  · split
    · exact .refl s
    · exact (s.dismissClaim_turns _).trans (State.reevaluate_turns _)

theorem State.claimDropped_turns (n : Octet) (gone : Bool) : Turns s (s.claimDropped n gone) := by
  unfold State.claimDropped
  split
  · exact .refl s
  · split
    · exact .refl s
    · next c found =>
      split
      · exact (s.dismissClaim_turns _).trans (State.reevaluate_turns _)
      · next kept =>
        obtain rfl := State.ownClaim_number found
        exact .ite ((Turns.placing (.drops s c found (by simpa using kept) _)).trans
          (State.reevaluate_turns _)) (s.requestAnnounce_turns _)

theorem State.frameSent_turns (f : CurrentFrame) : Turns s (s.frameSent f) := by
  unfold State.frameSent
  split
  · exact s.claimFrameSent_turns _ _
  · exact .refl s
  · exact s.laidSent_turns _ _
  · have carried := fun w own => s.serveBulk_turns.trans (State.laidSent_turns _ w own)
    exact .ite (carried _ _) ((carried _ _).trans (State.advanceAnswer_turns _ _ _))
  · exact .ite (.refl s) (s.surveySent_turns _)

theorem State.frameDropped_turns (f : CurrentFrame) : Turns s (s.frameDropped f) := by
  have kept (k : SendFail) : Turns s { s with tx := { s.tx with lastFail := some k } } :=
    .one (.tx s _ (.inl le_rfl) (.inl le_rfl))
  have failed (k : SendFail) := (kept k).trans (State.oweSite_turns _)
  unfold State.frameDropped
  simp only
  split
  · exact (failed _).trans (State.claimDropped_turns _ _ _)
  · exact failed _
  · exact failed _
  · exact .ite (failed _) (((failed _).trans (State.serveBulk_turns _)).trans
      (State.endAnswer_turns _ _))
  · exact failed _

theorem State.frameDiscarded_turns (f : CurrentFrame) : Turns s (s.frameDiscarded f) := by
  unfold State.frameDiscarded
  split
  · exact s.claimFrameLost_turns _ _
  all_goals exact .refl s

theorem RxPhase.written_loseEcho (p : RxPhase) : p.loseEcho.written = p.written := by
  cases p <;> rfl

theorem State.collide_turns (f : CurrentFrame) : Turns s (s.collide f) := by
  have broken : Turns s s.breakEcho := s.withPhase_turns (le_of_eq (RxPhase.written_loseEcho _))
  have ended := broken.trans (s.breakEcho.withCurrent_turns none)
  exact .ite (ended.trans (State.frameDropped_turns _ f))
    (.ite (ended.trans (State.frameDiscarded_turns _ f))
      ((broken.trans (.one (.freeCount _ _))).trans (State.withCurrent_turns _ _)))

theorem State.compareOctet_turns (agrees : Octet → Bool) : Turns s (s.compareOctet agrees) := by
  unfold State.compareOctet
  split
  · exact .refl s
  · split
    · exact .refl s
    · exact .ite (s.withCurrent_turns _) (s.collide_turns _)

end

end Sys2Proof.Machine

namespace Sys2Proof.Machine

/-! ### The moves of single commands -/

/-- A move that only the command named makes: it makes a placement FIRM, changes a wall's definition, a
cure class or the site state, or belongs to a restart. -/
inductive Special (c : Instr) : State → State → Prop
  | firms (s : State) (own : OwnClaim)
      (decision : c = .settleExpiry ∨ c = .firmDecision ∨ c = .noticeTake)
      (member : own ∈ s.claims.own) (tentative : own.state = .tentative)
      (kept : own.abandoned = false) (begun : own.settleDue ≠ none ∨ own.decision ≠ .notDue)
      (decided : s.decisionYields own = false) :
      Special c s
        (((s.mapClaim own.number OwnClaim.firm).requestAnnounce own.number).mapTag own.tag .tentative
          fun p => p.firm s.now)
  | defines (s : State) (f : WallFields) (d : WallDef) (request : carries c (.setWall f))
      (configured : s.site.state = .configured)
      (free : (s.wall f.wall.toNat).definition.isSome = true → s.replaceable f.wall.toNat = true) :
      Special c s (s.mapWall f.wall.toNat fun p => p.define d)
  | cures (s : State) (cls : Octet) (datum : Word16) (threshold : BitVec 32)
      (request : carries c (.setCure cls datum threshold))
      (taken : s.cureRefusal cls datum threshold = none) :
      Special c s (s.acceptCure cls.toNat datum.toInt threshold.toNat)
  | ticks (s : State) (command : c = .cureTick) : Special c s s.cureTick
  | configures (s : State) (f : SiteFields) (request : carries c (.setSite f))
      (unconfigured : s.site.state = .unconfigured) : Special c s (s.enterSite .configured)
  | starts (s : State) (request : carries c .start) (configured : s.site.state = .configured) :
      Special c s (s.enterSite .listening)
  | online (s : State) (command : c = .listenTimerExpiry) (listening : s.site.state = .listening) :
      Special c s (s.enterSite .online)
  | leaving (s : State) (request : carries c .stop) (joined : s.site.state.joined = true)
      (finished : ∀ p ∈ s.admission.queue, p.state.terminal = true) :
      Special c s (s.enterSite .leaving)
  | ended (s u : State) (cause : c = .leavingEnd ∨ carries c .stop)
      (leaving : s.site.state = .leaving) (moves : Turns (s.enterSite .configured) u) :
      Special c s (u.setStability .halted)
  | held (s : State) (cause : RestartCause) (hold : RestartHold) (command : c = .restartBegin cause)
      (present : s.supply.hold = some hold) :
      Special c s { s with supply := { s.supply with hold := some (hold.add cause) } }
  | restarts (s : State) (cause : RestartCause) (hold : RestartHold) (command : c = .restartBegin cause)
      (running : s.inRestart = false) :
      Special c s
        { s.beginRestart with supply := { s.beginRestart.supply with hold := some hold } }
  | off (s : State) (hold : RestartHold) (command : c = .powerOff) (held : s.inRestart = true) :
      Special c s { s.forget with supply := { s.forget.supply with hold := some hold } }
  | cold (s : State) (i : RestartInputs) (command : c = .restartEnd i) (held : s.inRestart = true)
      (powerless : s.poweredOff = true) : Special c s (s.coldEnd i)
  | warm (s : State) (i : RestartInputs) (command : c = .restartEnd i) (held : s.inRestart = true)
      (powered : s.poweredOff = false) : Special c s (s.warmEnd i)

/-- The moves of a command, one after another. -/
def Chain (c : Instr) : State → State → Prop :=
  Relation.ReflTransGen fun s t => Turn s t ∨ Special c s t

namespace Chain

variable {c : Instr} {s t u : State}

theorem refl (s : State) : Chain c s s := Relation.ReflTransGen.refl

theorem turns (h : Turns s t) : Chain c s t := Relation.ReflTransGen.mono (fun _ _ => Or.inl) _ _ h

theorem special (h : Special c s t) : Chain c s t := Relation.ReflTransGen.single (.inr h)

theorem trans (h : Chain c s t) (k : Chain c t u) : Chain c s u := Relation.ReflTransGen.trans h k

theorem ite {p : Prop} [Decidable p] (h : Chain c s t) (k : Chain c s u) :
    Chain c s (if p then t else u) := by
  split <;> assumption

/-- A property that every move keeps is kept by a command. -/
theorem keeps {P : State → Prop} (turn : ∀ s t, Turn s t → P s → P t)
    (special : ∀ s t, Special c s t → P s → P t) (h : Chain c s t) (p : P s) : P t := by
  induction h with
  | refl => exact p
  | tail _ last ih => exact last.elim (fun h => turn _ _ h ih) fun h => special _ _ h ih

end Chain

/-! ### Requests -/

section
variable {c : Instr} (s : State)

theorem State.changeRate_turns : Turns s s.changeRate := by
  have begun : Turns s ((s.withCurrent none).withIdle 0) :=
    (s.withCurrent_turns _).trans (State.withIdle_turns _ _)
  exact .ite (begun.trans (State.dropFrame_turns _ rfl))
    (begun.trans (State.withPhase_turns _ (Nat.zero_le _)))

theorem State.beginBlocks_turns : Turns s s.beginBlocks := by
  have heard : Turns s (s.withRx { s.rx with phase := .gapWait, idleCount := 0 }) :=
    s.withRx_turns (.inl (Nat.add_le_add_left (Nat.zero_le _) _))
  have sensed (t : State) (scan : Option Nat) (due : LocalTime) :
      Turns t { t with monitor := { t.monitor.beginWind due with scan := scan } } :=
    .one (.monitor t _ rfl (.inl le_rfl))
  have timed (t : State) (due : Option LocalTime) :
      Turns t { t with cure := { t.cure with tickDue := due } } :=
    .one (.cure t _ rfl)
  exact (heard.trans (sensed _ _ _)).trans (timed _ _)

theorem State.withSite_turns {x : SiteControl} (same : x.state = s.site.state) :
    Turns s { s with site := x } := .one (.site s x same)

theorem State.accept_state : s.accept.state = s := rfl

theorem State.replySetSite_chain (f : SiteFields) (request : carries c (.setSite f)) :
    Chain c s (State.replySetSite f s).state := by
  unfold State.replySetSite
  split
  · exact .refl s
  · split
    · exact .refl s
    · next config _ =>
      split
      · exact .refl s
      · split
        · exact .refl s
        · rw [State.accept_state]
          have written : Turns s (s.withConfig config) := s.withSite_turns rfl
          unfold State.acceptSite
          split
          · next unconfigured =>
            exact ((Chain.turns written).trans (.special (.configures _ f request unconfigured))).trans
              (.turns ((State.beginBlocks_turns _).trans (State.evalHead_turns _)))
          · have renumbered := written.trans
              ((s.withConfig config).withRecords_map_turns
                (f := fun r => if r.own then { r with laidBy := config.station } else r)
                fun r => by split <;> rfl)
            exact .turns (.ite renumbered (renumbered.trans (State.changeRate_turns _)))

theorem State.replySetWall_chain (f : WallFields) (request : carries c (.setWall f)) :
    Chain c s (State.replySetWall f s).state := by
  unfold State.replySetWall
  split
  · exact .refl s
  · next configured =>
    split
    · exact .refl s
    · next d _ =>
      simp only
      split
      · exact .refl s
      · next free =>
        split
        · exact .special (.defines s f d request (by simpa using configured)
            (by simpa using free))
        · exact .refl s

theorem State.replySetCure_chain (cls : Octet) (datum : Word16) (threshold : BitVec 32)
    (request : carries c (.setCure cls datum threshold)) :
    Chain c s (State.replySetCure cls datum threshold s).state := by
  unfold State.replySetCure
  split
  · exact .refl s
  · next taken => exact .special (.cures s cls datum threshold request taken)

theorem State.acceptLimits_turns (f : LimitFields) : Turns s (s.acceptLimits f) := by
  have limited : Turns s { s with monitor := { s.monitor with limits := takenLimits f } } :=
    .one (.monitor s _ rfl (.inl le_rfl))
  have filtered (t : State) (n : Nat) : Turns t { t with stop := { t.stop with lstopFilter := n } } :=
    .one (.lstop t _ _ n)
  have waited (t : State) (n : Nat) :
      Turns t { t with admission := { t.admission with supportLimit := n } } :=
    .one (.supportLimit t n)
  have lagged (t : State) (on off : Nat) :
      Turns t { t with rx := { t.rx with lagOn := on, lagOff := off } } :=
    .one (.rx t _ (.inl le_rfl))
  exact (((limited.trans (filtered _ _)).trans (waited _ _)).trans (lagged _ _ _)).trans
    (State.judgeLag_turns _)

theorem State.replySetLimits_chain (f : LimitFields) : Chain c s (State.replySetLimits f s).state := by
  unfold State.replySetLimits
  split
  · exact .turns (s.acceptLimits_turns f)
  · exact .refl s

theorem State.replyStart_chain (request : carries c .start) : Chain c s s.replyStart.state := by
  unfold State.replyStart
  split
  · exact .refl s
  · next configured =>
    split
    · have emptied : Turns s { s with claims := { s.claims with peers := [], counter := 0 } } :=
        .one (.peers s [] 0 fun _ => ⟨Nat.zero_le _, fun _ => Nat.zero_le _, .nil⟩)
      have listened (t : State) (due : LocalTime) :
          Turns t { t with site := { t.site with listenDue := some due } } := t.withSite_turns rfl
      have sensed (t : State) (due : LocalTime) :
          Turns t { t with
            monitor := { t.monitor with windCount := 0, windowDue := some due, gusts := [] } } :=
        .one (.monitor t _ rfl (.inr (Nat.zero_le _)))
      have asked (t : State) (x : PendingSurvey) :
          Turns t { t with notice := { t.notice with survey := some x } } := t.notice_turns rfl
      have begun := ((emptied.trans (listened _ (s.after s.cfg.hold))).trans
        (sensed _ (s.after 250))).trans (asked _ { select := .all, queued := false })
      exact ((Chain.turns begun).trans (.special (.starts _ request (by simpa using configured)))).trans
        (.turns (State.reevaluate_turns _))
    · exact .refl s

theorem State.endLeaving_chain (cause : c = .leavingEnd ∨ carries c .stop)
    (leaving : s.site.state = .leaving) : Chain c s s.endLeaving := by
  have timed (t : State) :
      Turns t { t with site := { t.site with leaveDue := none, leaveExpired := false } } :=
    t.withSite_turns rfl
  have emptied (t : State) : Turns t { t with claims := { t.claims with peers := [] } } :=
    .one (.peers t [] _ fun _ => ⟨Nat.zero_le _, fun _ => Nat.zero_le _, .nil⟩)
  have answered (t : State) : Turns t { t with walls := t.walls.map WallPlace.offSite } :=
    t.offSite_turns
  have noticed (t : State) :
      Turns t { t with notice := { t.notice with waitingWalls := [], survey := none } } :=
    t.notice_turns rfl
  have sent (t : State) (f : Option CurrentFrame) :
      Turns t { t with tx := { t.tx with bulk := [], current := f } } :=
    .one (.tx t _ (.inl le_rfl) (.inr (Nat.zero_le _)))
  have moves := ((((timed (s.enterSite .configured)).trans (emptied _)).trans (answered _)).trans
    (noticed _)).trans (sent _ ((s.enterSite .configured).tx.current.bind CurrentFrame.finishing))
  exact (Chain.special (.ended s _ cause leaving
      (moves.trans (State.dropCause_turns _ .stationClash (by decide))))).trans
    (.turns ((State.withDwell_turns _ none).trans (State.reevaluate_turns _)))

theorem State.failAll_terminal : ∀ p ∈ s.failAll.admission.queue, p.state.terminal = true := by
  intro p hp
  simp only [State.failAll, State.withQueue, List.mem_map] at hp
  obtain ⟨q, -, rfl⟩ := hp
  split
  · assumption
  · rfl

theorem State.replyStop_chain (request : carries c .stop) : Chain c s s.replyStop.state := by
  unfold State.replyStop
  split
  · exact .refl s
  · next joined =>
    split
    · exact .refl s
    · next clear =>
      rw [State.accept_state]
      have failed : Turns s s.abandonAnnounced.failAll :=
        .placing (.failsAll s (by simpa using clear))
      have kept : s.abandonAnnounced.failAll.site.state = s.site.state := by
        have frame : Frame [.claims, .tx] s s.abandonAnnounced :=
          Frame.foldl (fun t p => Frame.ite (t.abandonTag_frame _) (Frame.refl _ t)) _ s
        have same : s.abandonAnnounced.site = s.site := frame .site (by decide)
        exact congrArg SiteControl.state same
      have timed (t : State) (due : LocalTime) :
          Turns t { t with site := { t.site with listenDue := none, leaveDue := some due } } :=
        t.withSite_turns rfl
      have stopped := failed.trans (timed _ (s.after s.cfg.hold))
      have entered := (Chain.turns (c := c) stopped).trans
        (.special (.leaving _ request (by simpa [kept] using joined)
          s.abandonAnnounced.failAll_terminal))
      have left := entered.trans (.turns (State.reevaluate_turns _))
      unfold State.acceptStop
      simp only
      split
      · next done =>
        refine left.trans (State.endLeaving_chain _ (.inr request) ?_)
        simp [State.leavingDone] at done
        exact done.1.1
      · exact left

theorem State.replyPlace_chain (f : PlaceFields) : Chain c s (State.replyPlace f s).state := by
  unfold State.replyPlace
  split
  · exact .refl s
  · split
    · exact .refl s
    · next room =>
      split
      · exact .refl s
      · next fresh =>
        split
        · exact .refl s
        · next d defined =>
          split
          · exact .refl s
          · refine .turns ((Turns.placing (.places s _ (by omega) (Bool.eq_false_of_not_eq_true fresh) ?_ rfl)).trans
              (State.evalHead_turns _))
            simp [newPlacement, placeTarget, defined]

variable {s} in
theorem State.onPlacement_chain {tag : Octet} {act : Nat → Placement → Reply}
    (acts : ∀ i p, s.admission.queue[i]? = some p → Chain c s (act i p).state) :
    Chain c s (s.onPlacement tag act).state := by
  unfold State.onPlacement
  split
  · exact .refl s
  · split
    · exact .refl s
    · exact acts _ _ (by assumption)

theorem State.replyWithdraw_chain (tag : Octet) : Chain c s (State.replyWithdraw tag s).state := by
  refine State.onPlacement_chain fun i p place => ?_
  unfold State.withdrawAt
  split
  · next head =>
    exact .turns ((Turns.placing (.waits s i p _ place head ⟨rfl, rfl⟩ (.inr rfl))).trans
      (State.evalHead_turns _))
  · split
    · next announced =>
      exact .turns ((Turns.placing (.retracts s i p _ place announced ⟨rfl, rfl⟩ (.inr rfl))).trans
        (State.reevaluate_turns _))
    · exact .refl s

theorem State.replySeated_chain (tag : Octet) : Chain c s (State.replySeated tag s).state := by
  refine State.onPlacement_chain fun i p place => ?_
  unfold State.seatAt
  split
  · next firm =>
    exact .turns ((Turns.one (.seats s i p place firm)).trans (State.reevaluate_turns _))
  · exact .refl s

theorem State.replyClear_chain (tag : Octet) : Chain c s (State.replyClear tag s).state := by
  refine State.onPlacement_chain fun i p place => ?_
  have clears {f : Placement → Placement} (held : p.state.inCells = true)
      (same : (f p).tag = p.tag ∧ (f p).target = p.target) (next : (f p).state.terminal = true) :
      Turns s ((s.clearClaim p.tag).mapPlacement i f).judgeLapse.reevaluate :=
    ((Turns.placing (.clears s i p f place held same next)).trans (State.judgeLapse_turns _)).trans
      (State.reevaluate_turns _)
  unfold State.clearAt
  split
  · next seated =>
    have held : p.state.inCells = true := by rw [seated]; rfl
    have done := clears (f := Placement.done) held ⟨rfl, rfl⟩ rfl
    rw [State.accept_state]
    exact .turns done
  · split
    · next firm =>
      have held : p.state.inCells = true := by rw [firm]; rfl
      have abandoned := clears (f := fun p => p.fail .abandoned) held ⟨rfl, rfl⟩ rfl
      rw [State.accept_state]
      exact .turns abandoned
    · exact .refl s

theorem Placement.core_changedTo (p q : Placement) : (p.changedTo q).core = q.core := rfl

theorem State.withQueue_map_turns {f : Placement → Placement} (same : ∀ p, (f p).core = p.core) :
    Turns s (s.withQueue (s.admission.queue.map f)) :=
  .placing (.queue s _ (by simp [List.map_map, Function.comp_def, same]))

theorem map_core_modify {f : Placement → Placement} (same : ∀ p, (f p).core = p.core)
    (l : List Placement) (i : Nat) : (l.modify i f).map Placement.core = l.map Placement.core := by
  induction l generalizing i with
  | nil => simp
  | cons p l ih => cases i <;> simp [same, ih]

/-- A placement is changed in what no invariant reads. -/
theorem State.mapPlacement_core_turns (i : Nat) {f : Placement → Placement}
    (same : ∀ p, (f p).core = p.core) : Turns s (s.mapPlacement i f) :=
  .placing (.queue s _ (map_core_modify (fun p => (p.core_changedTo (f p)).trans (same p)) _ i))

theorem State.resumeMotion_turns : Turns s s.resumeMotion := by
  refine s.withQueue_map_turns fun p => ?_
  unfold Placement.resume
  split
  · exact p.core_changedTo p.overran
  · rfl

theorem State.replyResume_chain : Chain c s s.replyResume.state := by
  unfold State.replyResume
  split
  · exact .refl s
  · next empty =>
    split
    · exact .turns ((((Turns.one (.releases s (by simpa using empty))).trans
        (State.resumeMotion_turns _)).trans (State.oweStop_turns _)).trans (State.evalHead_turns _))
    · exact .refl s

theorem State.replySurvey_chain (wall : Octet) : Chain c s (State.replySurvey wall s).state := by
  have asked (t : State) (x : PendingSurvey) :
      Turns t { t with notice := { t.notice with survey := some x } } := t.notice_turns rfl
  unfold State.replySurvey
  split
  · exact .refl s
  · split
    · exact .refl s
    · split
      · exact .refl s
      · exact .turns (s.serveBulk_turns.trans (asked _ _))

theorem State.replyReadSlot_chain (wall course : Octet) (pos : Word16) :
    Chain c s (State.replyReadSlot wall course pos s).state := by
  have same : (State.replyReadSlot wall course pos s).state = s := by
    unfold State.replyReadSlot
    simp only
    split
    · rfl
    · split
      · rfl
      · split <;> rfl
  rw [same]
  exact .refl s

/-- A request's effect is framed by its taking and its answer. -/
theorem State.answerWith_chain {r : Instr} {k : RequestKind} {run : State → Reply}
    (effect : ∀ u, Chain c u (run u).state) : Chain c s (s.answerWith r k run) :=
  ((Chain.turns (s.taken_turns r)).trans (effect _)).trans (.turns (State.produce_turns _ _ _ _))

theorem State.answerRequest_chain {r : Instr} (request : carries c r) :
    Chain c s (s.answerRequest r) := by
  cases r
  case setSite f => exact s.answerWith_chain fun u => u.replySetSite_chain f request
  case setWall f => exact s.answerWith_chain fun u => u.replySetWall_chain f request
  case setCure => exact s.answerWith_chain fun u => u.replySetCure_chain _ _ _ request
  case setLimits f => exact s.answerWith_chain fun u => u.replySetLimits_chain f
  case start => exact s.answerWith_chain fun u => u.replyStart_chain request
  case stop => exact s.answerWith_chain fun u => u.replyStop_chain request
  case place f => exact s.answerWith_chain fun u => u.replyPlace_chain f
  case withdraw tag => exact s.answerWith_chain fun u => u.replyWithdraw_chain tag
  case seated tag => exact s.answerWith_chain fun u => u.replySeated_chain tag
  case clear tag => exact s.answerWith_chain fun u => u.replyClear_chain tag
  case resume => exact s.answerWith_chain fun u => u.replyResume_chain
  case surveyRequest w => exact s.answerWith_chain fun u => u.replySurvey_chain w
  case readSlot => exact s.answerWith_chain fun u => u.replyReadSlot_chain _ _ _
  case readSite => exact s.answerWith_chain fun u => .refl u
  all_goals exact .refl s

/-- A request commanded by itself: none in a restart, lost at a busy port, and else taken and answered. -/
theorem exec_request {r : Instr} (request : r.requestKind.isSome = true) :
    exec r s = .next (if s.inRestart then s
      else if s.port.takes r then s.answerRequest r else s.loseRequest) := by
  cases r
  all_goals first
    | rfl
    | simp [Instr.requestKind] at request

theorem exec_request_chain {r : Instr} {t : State} (request : r.requestKind.isSome = true)
    (h : exec r s = .next t) : Chain r s t := by
  rw [exec_request s request] at h
  obtain rfl := Host.Outcome.next.inj h
  exact .ite (.refl s) (.ite (s.answerRequest_chain (.inl rfl)) (.turns s.loseRequest_turns))

/-! ### Transfers -/

theorem State.setOwed_turns (item : OutItem) (owed : Bool) : Turns s (s.setOwed item owed) := by
  unfold State.setOwed
  split
  · exact .refl s
  · exact .refl s
  · exact Turns.port s rfl
  · exact Turns.port s rfl
  · exact .placing (.queue s _ (map_core_modify (f := fun p => { p with reportOwed := owed }) (fun _ => rfl) _ _))
  · exact Turns.port s rfl

variable {s} in
theorem State.chosenItem_terminal {i : Nat} (chosen : s.chosenItem = .placement i true) :
    ∃ p, s.admission.queue[i]? = some p ∧ p.state.terminal = true := by
  unfold State.chosenItem at chosen
  split at chosen
  · cases chosen
  · split at chosen
    · cases chosen
    · split at chosen
      · cases chosen
      · split at chosen
        · next j _ =>
          obtain ⟨rfl, terminal⟩ := OutItem.placement.inj chosen
          cases place : s.admission.queue[j]? with
          | none => simp [place] at terminal
          | some p => exact ⟨p, rfl, by simpa [place] using terminal⟩
        · split at chosen <;> cases chosen

variable {s} in
theorem exec_transferBegin_chain {t : State} (h : exec .transferBegin s = .next t) :
    Chain .transferBegin s t := by
  obtain rfl := Host.Outcome.next.inj h
  refine .turns (.ite (.refl s) (.ite (s.withTransfer_none_turns _) ?_))
  refine Turns.trans (.one (.port s _ fun i frame shown => .inr ?_)) (State.setOwed_turns _ _ false)
  have chosen : s.chosenItem = .placement i true := congrArg Transfer.item (Option.some.inj shown)
  exact State.chosenItem_terminal chosen

variable {s} in
theorem State.settle_turns {x : Transfer} (shown : s.port.transfer = some x) (complete : Bool) :
    Turns s ((s.withTransfer false none).settle x.item complete) := by
  have ended := s.withTransfer_none_turns false
  unfold State.settle
  split
  · split
    · exact ended.trans (Turns.port _ rfl)
    · next i item =>
      refine .one (.settles s i x.frame ?_)
      rw [shown, ← item]
    all_goals exact ended
  · exact ended.trans (State.setOwed_turns _ _ _)

theorem State.takeFrame_chain (octets : List Octet) :
    Chain (.transferEnd octets) s (s.takeFrame octets) := by
  unfold State.takeFrame
  simp only
  split
  · exact .refl s
  · split
    · exact .turns s.loseRequest_turns
    · split
      · exact .turns s.loseRequest_turns
      · split
        · next r decoded =>
          exact .ite (.turns (s.taken_turns r)) (s.answerRequest_chain (.inr ⟨octets, rfl, decoded⟩))
        · exact .turns (s.produce_turns _ _ _)

variable {s} in
theorem exec_transferEnd_chain {octets : List Octet} {t : State}
    (h : exec (.transferEnd octets) s = .next t) : Chain (.transferEnd octets) s t := by
  obtain rfl := Host.Outcome.next.inj h
  have deselected : Chain (.transferEnd octets) s (s.withTransfer false none) :=
    .turns (s.withTransfer_none_turns _)
  split
  · split
    · exact deselected
    · next x shown =>
      exact .ite deselected ((Chain.turns (State.settle_turns shown _)).trans
        (State.takeFrame_chain _ octets))
  · exact .refl s

/-! ### The FIRM decision and the notice processor -/

theorem State.lapseIfDue_turns (n : Octet) : Turns s (s.lapseIfDue n) := by
  unfold State.lapseIfDue
  split
  · next ready => exact (Turns.placing (.lapses s n ready)).trans (State.judgeLapse_turns _)
  · exact .refl s

/-- A claim is decided: its placement yields, or it becomes FIRM; moves follow. -/
theorem State.decide_cases (own : OwnClaim) :
    Turns s (s.decide own)
      ∨ s.decisionYields own = false
        ∧ Turns
          (((s.mapClaim own.number OwnClaim.firm).requestAnnounce own.number).mapTag own.tag .tentative
            fun p => p.firm s.now) (s.decide own) := by
  unfold State.decide
  split
  · exact .inl (s.yieldAnnounced_turns.trans (State.reevaluate_turns _))
  · next decided =>
    exact .inr ⟨by simpa using decided, (State.reevaluate_turns _).trans (State.lapseIfDue_turns _ _)⟩

variable {s} in
/-- A claim that settles is TENTATIVE and served, its settle begun. -/
theorem OwnClaim.settles_iff {now : LocalTime} {own : OwnClaim} :
    own.settles now = true ↔ own.state = .tentative ∧ own.abandoned = false
      ∧ own.decision = .notDue ∧ reachedSome now own.settleDue = true := by
  simp [OwnClaim.settles, and_assoc]

theorem OwnClaim.settleDue_of_settles {now : LocalTime} {own : OwnClaim}
    (settles : own.settles now = true) : own.settleDue ≠ none := by
  obtain ⟨-, -, -, due⟩ := OwnClaim.settles_iff.mp settles
  intro absent
  simp [absent, reachedSome] at due

/-- What the FIRM decision needs of the claim it takes. -/
def State.Decidable (s : State) (own : OwnClaim) : Prop :=
  own ∈ s.claims.own ∧ own.state = .tentative ∧ own.abandoned = false
    ∧ (own.settleDue ≠ none ∨ own.decision ≠ .notDue)

variable {s} in
theorem State.decidable_of_settledClaim {own : OwnClaim} (found : s.settledClaim = some own) :
    s.Decidable own ∧ own.settles s.now = true := by
  unfold State.settledClaim at found
  split at found
  · cases found
  · have settles := List.find?_some found
    obtain ⟨tentative, kept, -, -⟩ := OwnClaim.settles_iff.mp settles
    exact ⟨⟨List.mem_of_find?_eq_some found, tentative, kept,
      .inl (OwnClaim.settleDue_of_settles settles)⟩, settles⟩

variable {s} in
theorem State.decidable_of_dueClaim {own : OwnClaim} (found : s.dueClaim = some own) :
    s.Decidable own := by
  unfold State.dueClaim at found
  split at found
  · cases found
  · have holds := List.find?_some found
    simp only [Bool.and_eq_true, Bool.or_eq_true, Bool.not_eq_true', beq_iff_eq] at holds
    obtain ⟨⟨kept, tentative⟩, due⟩ := holds
    refine ⟨List.mem_of_find?_eq_some found, tentative, kept, ?_⟩
    rcases due with due | ⟨settles, -⟩
    · exact .inr (by simp [due])
    · exact .inl (OwnClaim.settleDue_of_settles settles)

theorem State.decide_chain {own : OwnClaim} (due : s.Decidable own)
    (decision : c = .settleExpiry ∨ c = .firmDecision ∨ c = .noticeTake) :
    Chain c s (s.decide own) := by
  obtain ⟨member, tentative, kept, begun⟩ := due
  rcases s.decide_cases own with yields | ⟨decided, follow⟩
  · exact .turns yields
  · exact (Chain.special (.firms s own decision member tentative kept begun decided)).trans
      (.turns follow)

theorem State.takeDecision_chain (decision : c = .settleExpiry ∨ c = .firmDecision ∨ c = .noticeTake) :
    Chain c s s.takeDecision := by
  unfold State.takeDecision
  split
  · exact .refl s
  · next found => exact s.decide_chain (State.decidable_of_dueClaim found) decision

variable {s} in
theorem exec_settleExpiry_chain {t : State} (h : exec .settleExpiry s = .next t) :
    Chain .settleExpiry s t := by
  obtain rfl := Host.Outcome.next.inj h
  split
  · exact .refl s
  · next own found =>
    obtain ⟨due, settles⟩ := State.decidable_of_settledClaim found
    exact .ite (s.decide_chain due (.inl rfl)) (.turns (.placing (.defers s own _ due.1 settles)))

theorem State.removePeer_turns (station : Nat) (n : Octet) : Turns s (s.removePeer station n) := by
  refine Turns.trans (.one (.peers s _ s.claims.counter fun sound => ?_)) (State.reevaluate_turns _)
  obtain ⟨bound, pairs, distinct⟩ := sound
  refine ⟨(List.length_filter_le _ _).trans bound, fun x => ?_, distinct.filter _⟩
  exact List.filter_sublist.countP_le.trans (pairs x)

/-- A CLAIM entered keeps the peer table's rules (R77, R79). -/
theorem PeersSound.enterPeer {now : LocalTime} {e : PeerEntry} {l m : List PeerEntry}
    (sound : PeersSound l) (entered : enterPeer now e l = some m) : PeersSound m := by
  obtain ⟨bound, pairs, distinct⟩ := sound
  have keyed_iff (x : PeerEntry) : x.keyed e.station e.number = true
      ↔ x.station = e.station ∧ x.number = e.number := by simp [PeerEntry.keyed]
  unfold Machine.enterPeer at entered
  split at entered
  · obtain rfl := Option.some.inj entered
    have station (x : PeerEntry) :
        (if x.keyed e.station e.number = true then e else x).station = x.station := by
      split
      · next same => exact ((keyed_iff x).mp same).1.symm
      · rfl
    have number (x : PeerEntry) :
        (if x.keyed e.station e.number = true then e else x).number = x.number := by
      split
      · next same => exact ((keyed_iff x).mp same).2.symm
      · rfl
    refine ⟨by simpa using bound, fun n => ?_, ?_⟩
    · simpa [List.countP_map, Function.comp_def, station] using pairs n
    · simpa [List.pairwise_map, station, number] using distinct
  · next absent =>
    have fresh : ∀ x ∈ l, ¬(x.station = e.station ∧ x.number = e.number) := fun x hx same =>
      absent (List.any_eq_true.mpr ⟨x, hx, (keyed_iff x).mpr same⟩)
    have appended {k : List PeerEntry} (sub : k.Sublist l) (room : k.length < Config.peerCapacity)
        (few : k.countP (fun x => x.station == e.station) < 2) : PeersSound (k ++ [e]) := by
      refine ⟨by simpa using room, fun n => ?_, ?_⟩
      · have kept := (sub.countP_le (p := fun x => x.station == n)).trans (pairs n)
        by_cases same : e.station = n
        · subst same; simpa [List.countP_append] using few
        · simpa [List.countP_append, List.countP_cons, same] using kept
      · refine List.pairwise_append.mpr ⟨distinct.sublist sub, List.pairwise_singleton _ _, ?_⟩
        intro x hx y hy
        obtain rfl := List.mem_singleton.mp hy
        exact fresh x (sub.subset hx)
    split at entered
    · next crowded =>
      obtain rfl := Option.some.inj entered
      obtain ⟨x, hx, same⟩ : ∃ x ∈ l, (x.station == e.station) = true :=
        List.countP_pos_iff.mp (by omega)
      have shorter := List.length_eraseP_of_mem (p := fun x => x.station == e.station) hx same
      have one_less : (dropOldest e.station l).countP (fun x => x.station == e.station)
          = l.countP (fun x => x.station == e.station) - 1 := by
        rw [dropOldest, List.countP_eq_length_filter, List.countP_eq_length_filter]
        clear * - hx same
        induction l with
        | nil => cases hx
        | cons y l ih =>
          by_cases hy : (y.station == e.station) = true
          · simp [hy]
          · rcases List.mem_cons.mp hx with rfl | hx
            · exact absurd same hy
            · simpa [List.eraseP_cons, hy] using ih hx
      have := pairs e.station
      have := List.length_pos_of_mem hx
      exact appended List.eraseP_sublist (by unfold dropOldest; omega) (by omega)
    · next few =>
      split at entered
      · next room =>
        obtain rfl := Option.some.inj entered
        exact appended (List.Sublist.refl l) room (by omega)
      · simp only at entered
        split at entered
        · next room =>
          obtain rfl := Option.some.inj entered
          refine appended List.filter_sublist room ?_
          exact lt_of_le_of_lt List.filter_sublist.countP_le (by omega)
        · cases entered

theorem State.enterClaim_turns (e : PeerEntry) : Turns s (s.enterClaim e) := by
  unfold State.enterClaim
  split
  · exact .ite (s.removePeer_turns _ _) (.refl s)
  · split
    · next m entered =>
      exact (Turns.one (.peers s m s.claims.counter fun sound => sound.enterPeer entered)).trans
        (State.reevaluate_turns _)
    · exact s.startDoubt_turns

theorem State.passNotice_turns (sender : Nat) (arrival : LocalTime) (n : Notice) :
    Turns s (s.passNotice sender arrival n) := by
  unfold State.passNotice
  split
  · refine .ite ?_ (.refl s)
    unfold State.takeClaim
    split
    · exact .refl s
    · split
      · exact s.startDoubt_turns
      · exact .ite (s.enterClaim_turns _) s.startDoubt_turns
  · exact .ite (.ite (s.removePeer_turns _ _) (.refl s)) (.refl s)
  · exact s.applyLaid_turns _ _ _ _
  · exact .ite (s.surveyed_turns _) (.refl s)

theorem State.readNotice_turns (sender : Nat) (arrival : LocalTime) (kind : Octet)
    (body : List Octet) : Turns s (s.readNotice sender arrival kind body) := by
  unfold State.readNotice
  split
  · exact s.startDoubt_turns
  · exact s.passNotice_turns _ _ _

theorem State.applyFrame_turns (f : StoredFrame) : Turns s (s.applyFrame f) := by
  unfold State.applyFrame
  split
  · exact .refl s
  · split
    · refine .ite s.startDoubt_turns (Turns.trans (.ite ?_ (.refl s)) (State.readNotice_turns _ _ _ _ _))
      exact s.addCause_turns _ (by decide) (by decide)
    · exact s.startDoubt_turns

theorem State.finishFrame_turns (position : Nat) (f : StoredFrame) :
    Turns s (s.finishFrame position f) := by
  have shorter : Turns s (s.withRx
      { s.rx with
        frames := s.rx.frames.tail
        readPos := (position + f.size) % Config.storeCapacity }) := by
    refine s.withRx_turns (.inl (Nat.add_le_add_right ?_ _))
    cases s.rx.frames <;> simp
  have finished (t : State) : Turns t { t with notice := { t.notice with processing := none } } :=
    t.notice_turns rfl
  exact ((shorter.trans (State.judgeLag_turns _)).trans (finished _)).trans (.placing (.told _ position))

theorem State.processFrame_turns (f : StoredFrame) : Turns s (s.processFrame f) := by
  have begun : Turns s { s with notice := { s.notice with processing := some s.rx.readPos } } :=
    s.notice_turns rfl
  exact (begun.trans (State.applyFrame_turns _ f)).trans (State.finishFrame_turns _ _ f)

variable {s} in
theorem exec_noticeTake_chain {t : State} (h : exec .noticeTake s = .next t) :
    Chain .noticeTake s t := by
  obtain rfl := Host.Outcome.next.inj h
  split
  · exact .refl s
  · exact (s.takeDecision_chain (.inr (.inr rfl))).trans (.turns (State.processFrame_turns _ _))

end

end Sys2Proof.Machine

namespace Sys2Proof.Machine

section
variable {c : Instr} (s : State)

/-! ### The line -/

theorem State.dropFor_turns (cause : DropCause) : Turns s (s.dropFor cause) := by
  have dropped (n : Nat) (p : RxPhase) (fits : p.written = 0) :
      Turns s ((s.withIdle n).dropFrame p) :=
    (s.withIdle_turns n).trans (State.dropFrame_turns _ fits)
  unfold State.dropFor
  split
  · exact dropped _ _ rfl
  · exact dropped _ _ rfl
  · exact dropped _ _ rfl
  · exact dropped _ _ rfl
  · exact .ite ((s.withIdle_turns 0).trans (State.dropStatus_turns _)) (dropped _ _ rfl)

theorem State.lineIdle_turns : Turns s s.lineIdle := by
  have idle := s.withIdle_turns Config.idleBits
  unfold State.lineIdle
  simp only
  split
  · exact idle
  · exact idle
  · exact idle.trans (State.withPhase_turns _ (Nat.zero_le _))
  all_goals exact idle.trans (State.dropFrame_turns _ rfl)

theorem State.phase_of_completes {s : State} {crcLow : Octet} {f : OpenFrame}
    (completes : s.completes crcLow = some f) : ∃ hi, s.rx.phase = .check f (some hi) := by
  unfold State.completes at completes
  split at completes
  · split at completes
    · next g hi phase =>
      split at completes
      · exact ⟨hi, Option.some.inj completes ▸ phase⟩
      · cases completes
    all_goals cases completes
  · cases completes

variable {s} {t : State}

theorem exec_frameArrival_turns {crcLow : Octet} (h : exec (.frameArrival crcLow) s = .next t) :
    Turns s t := by
  obtain rfl := Host.Outcome.next.inj h
  split
  · exact .refl s
  · next f completes =>
    obtain ⟨hi, phase⟩ := State.phase_of_completes completes
    exact ((s.compareOctet_turns _).trans (State.withIdle_turns _ _)).trans
      (State.arrive_turns _ (first := some hi) phase)

theorem exec_frameDrop_turns {cause : DropCause} (h : exec (.frameDrop cause) s = .next t) :
    Turns s t := by
  obtain rfl := Host.Outcome.next.inj h
  exact .ite ((s.compareOctet_turns _).trans (State.dropFor_turns _ cause)) (.refl s)

theorem exec_octetReceived_turns {octet : Octet} {stopRecessive : Bool}
    (h : exec (.octetReceived octet stopRecessive) s = .next t) : Turns s t := by
  obtain rfl := Host.Outcome.next.inj h
  exact .ite (((s.compareOctet_turns _).trans (State.withIdle_turns _ _)).trans
    (State.hearOctet_turns _ _ _)) (.refl s)

theorem exec_lineIdle_turns (h : exec .lineIdle s = .next t) : Turns s t := by
  obtain rfl := Host.Outcome.next.inj h
  exact .ite ((s.compareOctet_turns _).trans (State.lineIdle_turns _)) (.refl s)

/-! ### The transmitter -/

theorem State.urgentTake_suffix (s : State) (l : List UrgentRecord) : (s.urgentTake l).2 <:+ l := by
  induction l with
  | nil => exact List.suffix_rfl
  | cons r rest ih =>
    cases r with
    | release n => exact List.suffix_cons _ _
    | claim n =>
      unfold State.urgentTake
      split
      · exact List.suffix_cons _ _
      · exact ih.trans (List.suffix_cons _ _)

theorem State.buildUrgent_turns (s : State) (r : UrgentRecord) : Turns s (s.buildUrgent r) := by
  unfold State.buildUrgent
  split
  · next n =>
    have marked : Turns s (s.mapClaim n fun c => { c with announce := .nothing }) :=
      s.mapClaim_turns n fun _ => rfl
    unfold State.buildClaim
    split
    · exact .refl s
    · exact marked.trans (State.withCurrent_turns _ _)
  · exact s.withCurrent_turns _

theorem State.buildBulk_turns (s : State) : Turns s s.buildBulk := by
  unfold State.buildBulk
  split
  · exact .refl s
  · next w rest bulk =>
    exact (s.withBulk_turns (.inl (by simp [bulk]))).trans (State.withCurrent_turns _ _)
  · exact (s.setAnswer_turns _ _).trans (State.withCurrent_turns _ _)
  · next rest bulk =>
    have shorter : Turns s (s.withBulk rest) := s.withBulk_turns (.inl (by simp [bulk]))
    have pended (t : State) : Turns t { t with notice := { t.notice with survey := none } } :=
      t.notice_turns rfl
    unfold State.buildSurvey
    simp only
    split
    · exact shorter
    · exact (shorter.trans (pended _)).trans (State.withCurrent_turns _ _)

theorem exec_arbiterTake_turns (h : exec .arbiterTake s = .next t) : Turns s t := by
  obtain rfl := Host.Outcome.next.inj h
  refine .ite ?_ (.refl s)
  have shorter : Turns s (s.withUrgent (s.urgentTake s.tx.urgent).2) :=
    s.withUrgent_turns (.inl (s.urgentTake_suffix _).length_le)
  unfold State.arbitrate
  split
  · next taken =>
    rw [taken] at shorter
    exact (shorter.trans (State.buildUrgent_turns _ _)).trans (State.evalHead_turns _)
  · next taken =>
    rw [taken] at shorter
    exact (shorter.trans (State.buildBulk_turns _)).trans (State.evalHead_turns _)

theorem exec_attemptStart_turns (h : exec .attemptStart s = .next t) : Turns s t := by
  obtain rfl := Host.Outcome.next.inj h
  exact .ite ((s.withIdle_turns 0).trans (State.withCurrent_turns _ _)) (.refl s)

theorem exec_collision_turns (h : exec .collision s = .next t) : Turns s t := by
  obtain rfl := Host.Outcome.next.inj h
  split
  · exact .refl s
  · exact .ite (s.collide_turns _) (.refl s)

theorem exec_backoffEnd_turns (h : exec .backoffEnd s = .next t) : Turns s t := by
  obtain rfl := Host.Outcome.next.inj h
  exact .ite (s.withCurrent_turns _) (.refl s)

theorem exec_sendCompletion_turns (h : exec .sendCompletion s = .next t) : Turns s t := by
  obtain rfl := Host.Outcome.next.inj h
  split
  · exact .refl s
  · exact (s.withCurrent_turns none).trans (State.frameSent_turns _ _)

/-! ### Claims, placements and windows -/

theorem exec_claimAnnounceQueued_turns (h : exec .claimAnnounceQueued s = .next t) : Turns s t := by
  obtain rfl := Host.Outcome.next.inj h
  split
  · exact .refl s
  · next own found =>
    unfold State.claimToQueue at found
    split at found
    · next free => exact s.queueClaim_turns (by simp at free; exact free.2)
    · cases found

theorem exec_refreshDue_turns {n : Octet} (h : exec (.refreshDue n) s = .next t) : Turns s t := by
  obtain rfl := Host.Outcome.next.inj h
  have marked : Turns s (s.mapClaim n fun c => { c with refreshTaken := true }) :=
    s.mapClaim_turns n fun _ => rfl
  exact .ite (marked.trans (State.requestAnnounce_turns _ n)) (.refl s)

theorem exec_peerEntryExpiry_turns {station : Nat} {n : Octet}
    (h : exec (.peerEntryExpiry station n) s = .next t) : Turns s t := by
  obtain rfl := Host.Outcome.next.inj h
  exact .ite (s.removePeer_turns station n) (.refl s)

theorem State.expiredSupport_waits {i : Nat} (found : s.expiredSupport = some i) :
    ∃ p, s.admission.queue[i]? = some p ∧ p.state.waits = true := by
  unfold State.expiredSupport at found
  split at found
  · cases found
  · split at found
    · cases found
    · next j head =>
      split at found
      · obtain rfl := Option.some.inj found
        obtain ⟨before, p, after, queue, rfl, waits, -⟩ := State.headIndex_eq.mp head
        exact ⟨p, by simp [queue], waits⟩
      · cases found

theorem exec_supportWaitExpiry_turns (h : exec .supportWaitExpiry s = .next t) : Turns s t := by
  obtain rfl := Host.Outcome.next.inj h
  split
  · exact .refl s
  · next i found =>
    obtain ⟨p, place, waits⟩ := State.expiredSupport_waits found
    exact (Turns.placing (.waits s i p _ place waits ⟨rfl, rfl⟩ (.inr rfl))).trans
      (State.evalHead_turns _)

theorem exec_motionLimitExpiry_turns (h : exec .motionLimitExpiry s = .next t) : Turns s t := by
  obtain rfl := Host.Outcome.next.inj h
  split
  · exact .refl s
  · exact s.mapPlacement_core_turns _ fun _ => rfl

theorem exec_linkHoldoffEnd_turns (h : exec .linkHoldoffEnd s = .next t) : Turns s t := by
  obtain rfl := Host.Outcome.next.inj h
  split
  · exact .refl s
  · next i _ =>
    exact (s.mapPlacement_core_turns i (f := fun p => { p with holdoff := none }) fun _ => rfl).trans
      (State.evalHead_turns _)

theorem exec_viewDoubtExpiry_turns (h : exec .viewDoubtExpiry s = .next t) : Turns s t := by
  obtain rfl := Host.Outcome.next.inj h
  have ended : Turns s { s with notice := { s.notice with doubtDue := none } } :=
    .one (.notice s _ fun _ => rfl)
  exact .ite ((ended.trans (State.oweSite_turns _)).trans (State.evalHead_turns _)) (.refl s)

theorem exec_surveyWindowClose_turns {w : Nat} (h : exec (.surveyWindowClose w) s = .next t) :
    Turns s t := by
  obtain rfl := Host.Outcome.next.inj h
  refine .ite ?_ (.refl s)
  have closed (clean : Bool) :
      Turns s (s.mapWall w fun p => { p with window := none, gap := p.gap && !clean }) :=
    s.mapWall_turns w ⟨rfl, rfl, fun set => by simp at set; exact set.1⟩
  exact .ite (((closed _).trans (State.oweSite_turns _)).trans (State.mapChanged_turns _)) (closed _)

/-! ### Sensors, inputs and the site -/

theorem Monitor.write_state (m : Monitor) (channel code : Nat) :
    (m.write channel code).state = m.state ∧ (m.write channel code).gusts = m.gusts := by
  unfold Monitor.write
  repeat' split
  all_goals exact ⟨rfl, rfl⟩

theorem exec_conversionComplete_turns {code : BitVec 10}
    (h : exec (.conversionComplete code) s = .next t) : Turns s t := by
  obtain rfl := Host.Outcome.next.inj h
  refine .ite (.refl s) ?_
  split
  · exact .refl s
  · next channel _ =>
    obtain ⟨state, gusts⟩ := s.monitor.write_state channel code.toNat
    have written (m : Monitor) (same : m.state = (s.monitor.write channel code.toNat).state)
        (kept : m.gusts = (s.monitor.write channel code.toNat).gusts) :
        Turns s { s with monitor := m } :=
      .one (.monitor s m (same.trans state) (.inl (le_of_eq (congrArg _ (kept.trans gusts)))))
    refine .ite (written _ rfl rfl) (Turns.trans (written _ ?_ ?_) (State.evaluateIfJoined_turns _))
    all_goals rfl

theorem exec_srefLost_turns (h : exec .srefLost s = .next t) : Turns s t := by
  obtain rfl := Host.Outcome.next.inj h
  have lost : Turns s { s with
      monitor := { s.monitor.invalidate with reference := false, scan := none } } :=
    .one (.monitor s _ rfl (.inl le_rfl))
  exact .ite (lost.trans (State.evaluateIfJoined_turns _)) (.refl s)

theorem exec_srefRegained_turns (h : exec .srefRegained s = .next t) : Turns s t := by
  obtain rfl := Host.Outcome.next.inj h
  exact .ite (.one (.monitor s _ rfl (.inl le_rfl))) (.refl s)

theorem Monitor.sampleRun_state (high : Bool) (n : Nat) (m : Monitor) :
    (Monitor.sampleRun high n m).state = m.state ∧ (Monitor.sampleRun high n m).gusts = m.gusts := by
  induction n generalizing m with
  | zero => exact ⟨rfl, rfl⟩
  | succ n ih =>
    have sampled : (m.sampleWind high).state = m.state ∧ (m.sampleWind high).gusts = m.gusts := by
      unfold Monitor.sampleWind
      repeat' split
      all_goals exact ⟨rfl, rfl⟩
    exact ⟨(ih _).1.trans sampled.1, (ih _).2.trans sampled.2⟩

theorem State.hearWind_turns (s : State) (high : Bool) (samples : Nat) :
    Turns s (s.hearWind high samples) := by
  obtain ⟨state, gusts⟩ := Monitor.sampleRun_state high samples s.monitor
  exact .ite (.one (.monitor s _ state (.inl (le_of_eq (congrArg _ gusts))))) (.refl s)

theorem exec_windWindowEnd_turns (h : exec .windWindowEnd s = .next t) : Turns s t := by
  obtain rfl := Host.Outcome.next.inj h
  refine .ite (.one (.monitor s _ rfl (.inr ?_))) (.refl s)
  simp [Monitor.endWindow, joinGusts]
  omega

theorem State.sampleLstop_turns (s : State) (low : Bool) : Turns s (State.sampleLstop low s) := by
  refine .ite (.one (.lstop s _ 0 _)) (.ite ?_ (.one (.lstop s _ (s.stop.lstopDiffer + 1) _)))
  exact (Turns.one (.lstop s low 0 s.stop.lstopFilter)).trans
    (State.followCause_turns _ _ _ (by decide) (by decide))

theorem State.lstopRun_turns (low : Bool) (n : Nat) (s : State) :
    Turns s (State.lstopRun low n s) := by
  induction n generalizing s with
  | zero => exact .refl s
  | succ n ih => exact (s.sampleLstop_turns low).trans (ih _)

theorem exec_lstopFilterChange_turns {low : Bool} {samples : Nat}
    (h : exec (.lstopFilterChange low samples) s = .next t) : Turns s t := by
  obtain rfl := Host.Outcome.next.inj h
  exact .ite (.refl s) (State.lstopRun_turns low samples s)

theorem exec_supplyWarnChange_turns {below : Bool}
    (h : exec (.supplyWarnChange below) s = .next t) : Turns s t := by
  obtain rfl := Host.Outcome.next.inj h
  have kept := Turns.one (.supply s below)
  exact .ite kept (kept.trans (State.followCause_turns _ _ _ (by decide) (by decide)))

theorem State.dropUrgentCurrent_turns (s : State) : Turns s s.dropUrgentCurrent := by
  unfold State.dropUrgentCurrent
  split
  · exact .refl s
  · exact .ite (.refl s) (.ite (s.withCurrent_turns _)
      ((s.withCurrent_turns none).trans (State.frameDiscarded_turns _ _)))

theorem exec_leaveTimerExpiry_turns (h : exec .leaveTimerExpiry s = .next t) : Turns s t := by
  obtain rfl := Host.Outcome.next.inj h
  have timed : Turns s { s with site := { s.site with leaveDue := none, leaveExpired := true } } :=
    s.withSite_turns rfl
  exact .ite ((timed.trans (State.withUrgent_turns _ (l := []) (.inl (Nat.zero_le _)))).trans
    (State.dropUrgentCurrent_turns _)) (.refl s)

theorem exec_listenTimerExpiry_chain (h : exec .listenTimerExpiry s = .next t) :
    Chain .listenTimerExpiry s t := by
  obtain rfl := Host.Outcome.next.inj h
  have timed : Turns s { s with site := { s.site with listenDue := none } } := s.withSite_turns rfl
  split
  · next ready =>
    simp [State.listenReady] at ready
    exact ((Chain.turns timed).trans (.special (.online _ rfl ready.1.2))).trans
      (.turns (State.evalHead_turns _))
  · exact .refl s

theorem exec_leavingEnd_chain (h : exec .leavingEnd s = .next t) : Chain .leavingEnd s t := by
  obtain rfl := Host.Outcome.next.inj h
  split
  · next ready =>
    simp [State.leavingReady, State.leavingDone] at ready
    exact s.endLeaving_chain (.inl rfl) ready.2.1.1
  · exact .refl s

/-! ### Restarts -/

theorem exec_restartBegin_chain {cause : RestartCause} (h : exec (.restartBegin cause) s = .next t) :
    Chain (.restartBegin cause) s t := by
  obtain rfl := Host.Outcome.next.inj h
  split
  · next hold present => exact .special (.held s cause hold rfl present)
  · next running =>
    exact .special (.restarts s cause _ rfl (by simp [State.inRestart, running]))

theorem exec_powerOff_chain (h : exec .powerOff s = .next t) : Chain .powerOff s t := by
  obtain rfl := Host.Outcome.next.inj h
  split
  · exact .refl s
  · next hold present => exact .special (.off s _ rfl (by simp [State.inRestart, present]))

theorem exec_restartEnd_chain {i : RestartInputs} (h : exec (.restartEnd i) s = .next t) :
    Chain (.restartEnd i) s t := by
  obtain rfl := Host.Outcome.next.inj h
  split
  · exact .refl s
  · next hold present =>
    have held : s.inRestart = true := by simp [State.inRestart, present]
    split
    · next powerless =>
      exact .special (.cold s i rfl held (by simp [State.poweredOff, present, powerless]))
    · next powered =>
      exact .special (.warm s i rfl held (by simpa [State.poweredOff, present] using powered))

/-! ### Every command -/

/-- What a command does is a chain of moves, each one that any command can make or its own. -/
theorem exec_chain (h : exec c s = .next t) : Chain c s t := by
  cases c
  case transferBegin => exact exec_transferBegin_chain h
  case transferEnd => exact exec_transferEnd_chain h
  case frameArrival => exact .turns (exec_frameArrival_turns h)
  case frameDrop => exact .turns (exec_frameDrop_turns h)
  case noticeTake => exact exec_noticeTake_chain h
  case arbiterTake => exact .turns (exec_arbiterTake_turns h)
  case attemptStart => exact .turns (exec_attemptStart_turns h)
  case collision => exact .turns (exec_collision_turns h)
  case backoffEnd => exact .turns (exec_backoffEnd_turns h)
  case sendCompletion => exact .turns (exec_sendCompletion_turns h)
  case claimAnnounceQueued => exact .turns (exec_claimAnnounceQueued_turns h)
  case ownAnnounceQueued => exact .turns (Host.Outcome.next.inj h ▸ s.serveAnnounce_turns)
  case surveyAnswerQueued => exact .turns (Host.Outcome.next.inj h ▸ s.serveAnswer_turns)
  case surveyNoticeQueued => exact .turns (Host.Outcome.next.inj h ▸ s.serveSurvey_turns)
  case settleExpiry => exact exec_settleExpiry_chain h
  case firmDecision => exact Host.Outcome.next.inj h ▸ s.takeDecision_chain (.inr (.inl rfl))
  case refreshDue => exact .turns (exec_refreshDue_turns h)
  case lapsePoint n => exact .turns (Host.Outcome.next.inj h ▸ s.lapseIfDue_turns n)
  case peerEntryExpiry => exact .turns (exec_peerEntryExpiry_turns h)
  case supportWaitExpiry => exact .turns (exec_supportWaitExpiry_turns h)
  case motionLimitExpiry => exact .turns (exec_motionLimitExpiry_turns h)
  case linkHoldoffEnd => exact .turns (exec_linkHoldoffEnd_turns h)
  case viewDoubtExpiry => exact .turns (exec_viewDoubtExpiry_turns h)
  case surveyWindowClose => exact .turns (exec_surveyWindowClose_turns h)
  case listenTimerExpiry => exact exec_listenTimerExpiry_chain h
  case leaveTimerExpiry => exact .turns (exec_leaveTimerExpiry_turns h)
  case leavingEnd => exact exec_leavingEnd_chain h
  case cureTick =>
    obtain rfl := Host.Outcome.next.inj h
    exact .ite (.special (.ticks s rfl)) (.refl s)
  case conversionComplete => exact .turns (exec_conversionComplete_turns h)
  case srefLost => exact .turns (exec_srefLost_turns h)
  case srefRegained => exact .turns (exec_srefRegained_turns h)
  case windRisingEdge => exact .turns (Host.Outcome.next.inj h ▸ s.hearWind_turns _ _)
  case windFallingEdge => exact .turns (Host.Outcome.next.inj h ▸ s.hearWind_turns _ _)
  case windWindowEnd => exact .turns (exec_windWindowEnd_turns h)
  case lstopFilterChange => exact .turns (exec_lstopFilterChange_turns h)
  case supplyWarnChange => exact .turns (exec_supplyWarnChange_turns h)
  case restartBegin => exact exec_restartBegin_chain h
  case powerOff => exact exec_powerOff_chain h
  case restartEnd => exact exec_restartEnd_chain h
  case octetReceived => exact .turns (exec_octetReceived_turns h)
  case lineIdle => exact .turns (exec_lineIdle_turns h)
  all_goals exact exec_request_chain s rfl h

/-- A property of a state that neither the time nor the waiting commands bear on, and that every move of
every command keeps, is kept by a step. -/
theorem step_keeps {P : State → Prop} (timeless : ∀ s now pending, P s → P { s with now, pending })
    (turn : ∀ s t, Turn s t → P s → P t) (special : ∀ c s t, Special c s t → P s → P t)
    (h : step s = .next t) (p : P s) : P t := by
  unfold step at h
  split at h
  · exact (exec_chain h).keeps turn (special _) (timeless s _ _ p)
  · unfold State.idle at h
    split at h
    · exact (exec_chain h).keeps turn (special _) p
    · obtain rfl := Host.Outcome.next.inj h
      unfold State.tick
      split
      · exact p
      · exact timeless s _ _ p

end

end Sys2Proof.Machine

namespace Sys2Proof.Machine

/-! ### The moves of single commands, taken apart -/

/-- The site state moves by the table of R173 at a command. -/
inductive SiteMove (c : Instr) : SiteState → SiteState → Prop
  | configured (f : SiteFields) (request : carries c (.setSite f)) :
      SiteMove c .unconfigured .configured
  | listening (request : carries c .start) : SiteMove c .configured .listening
  | online (command : c = .listenTimerExpiry) : SiteMove c .listening .online
  | leaving (request : carries c .stop) (x : SiteState) (joined : x.joined = true) :
      SiteMove c x .leaving
  | left (cause : c = .leavingEnd ∨ carries c .stop) : SiteMove c .leaving .configured

/-- The parts of the moves of single commands: between them come moves that any command can make. -/
inductive Atom (c : Instr) : State → State → Prop
  | firms (s : State) (own : OwnClaim)
      (decision : c = .settleExpiry ∨ c = .firmDecision ∨ c = .noticeTake)
      (member : own ∈ s.claims.own) (tentative : own.state = .tentative)
      (kept : own.abandoned = false) (begun : own.settleDue ≠ none ∨ own.decision ≠ .notDue)
      (decided : s.decisionYields own = false) :
      Atom c s
        (((s.mapClaim own.number OwnClaim.firm).requestAnnounce own.number).mapTag own.tag .tentative
          fun p => p.firm s.now)
  | defines (s : State) (f : WallFields) (d : WallDef) (request : carries c (.setWall f))
      (configured : s.site.state = .configured)
      (free : (s.wall f.wall.toNat).definition.isSome = true → s.replaceable f.wall.toNat = true) :
      Atom c s (s.mapWall f.wall.toNat fun p => p.define d)
  | configures (s : State) (cls : Octet) (datum : Word16) (threshold : BitVec 32)
      (request : carries c (.setCure cls datum threshold))
      (taken : s.cureRefusal cls datum threshold = none) :
      Atom c s (s.mapClass cls.toNat fun x => x.configure datum.toInt threshold.toNat)
  | advances (s : State) (command : c = .cureTick) :
      Atom c s { s with cure := s.cure.advance s.monitor.ambient }
  | enters (s : State) (x : SiteState) (move : SiteMove c s.site.state x)
      (finished : x = .leaving → ∀ p ∈ s.admission.queue, p.state.terminal = true) :
      Atom c s (s.enterSite x)
  | held (s : State) (cause : RestartCause) (hold : RestartHold) (command : c = .restartBegin cause)
      (present : s.supply.hold = some hold) :
      Atom c s { s with supply := { s.supply with hold := some (hold.add cause) } }
  | restarts (s : State) (cause : RestartCause) (hold : RestartHold) (command : c = .restartBegin cause)
      (running : s.inRestart = false) :
      Atom c s { s.beginRestart with supply := { s.beginRestart.supply with hold := some hold } }
  | off (s : State) (hold : RestartHold) (command : c = .powerOff) (held : s.inRestart = true) :
      Atom c s { s.forget with supply := { s.forget.supply with hold := some hold } }
  | cold (s : State) (i : RestartInputs) (command : c = .restartEnd i) (held : s.inRestart = true)
      (powerless : s.poweredOff = true) : Atom c s (s.coldEnd i)
  | warms (s : State) (i : RestartInputs) (command : c = .restartEnd i) (held : s.inRestart = true)
      (powered : s.poweredOff = false) : Atom c s (s.warmKept.takeInputs i)

/-- A property that the parts of a special move keep is kept by the whole. -/
theorem Special.keeps {c : Instr} {P : State → Prop} (turn : ∀ s t, Turn s t → P s → P t)
    (atom : ∀ s t, Atom c s t → P s → P t) {s t : State} (h : Special c s t) (p : P s) : P t := by
  cases h with
  | firms own decision member tentative kept begun decided =>
    exact atom _ _ (.firms s own decision member tentative kept begun decided) p
  | defines f d request configured free => exact atom _ _ (.defines s f d request configured free) p
  | cures cls datum threshold request taken =>
    have configured := atom _ _ (.configures s cls datum threshold request taken) p
    unfold State.acceptCure
    simp only
    split
    · exact (State.conversionWalk_turns _ _).keeps turn configured
    · exact configured
  | ticks command =>
    exact ((State.oweSiteIf_turns _ _).trans (State.sweep_turns _)).keeps turn
      (atom _ _ (.advances s command) p)
  | configures f request unconfigured =>
    exact atom _ _ (.enters s .configured (unconfigured ▸ .configured f request) nofun) p
  | starts request configured =>
    exact atom _ _ (.enters s .listening (configured ▸ .listening request) nofun) p
  | online command listening =>
    exact atom _ _ (.enters s .online (listening ▸ .online command) nofun) p
  | leaving request joined finished =>
    exact atom _ _ (.enters s _ (.leaving request _ joined) fun _ => finished) p
  | ended u cause leaving moves =>
    have entered := atom _ _ (.enters s .configured (leaving.symm ▸ .left cause) nofun) p
    exact (u.setStability_turns _ (.inr rfl)).keeps turn (moves.keeps turn entered)
  | held cause hold command present => exact atom _ _ (.held s cause hold command present) p
  | restarts cause hold command running => exact atom _ _ (.restarts s cause hold command running) p
  | off hold command held => exact atom _ _ (.off s hold command held) p
  | cold i command held powerless => exact atom _ _ (.cold s i command held powerless) p
  | warm i command held powered =>
    have kept := atom _ _ (.warms s i command held powered) p
    have begun : Turns (s.warmKept.takeInputs i)
        (if s.site.config.isSome then (s.warmKept.takeInputs i).beginBlocks
          else s.warmKept.takeInputs i) :=
      .ite (State.beginBlocks_turns _) (.refl _)
    exact (begun.trans (State.sweep_turns _)).keeps turn kept

/-- `exec_chain` with the special moves taken apart. -/
theorem exec_keeps {c : Instr} {P : State → Prop} {s t : State}
    (turn : ∀ s t, Turn s t → P s → P t) (atom : ∀ s t, Atom c s t → P s → P t)
    (h : exec c s = .next t) (p : P s) : P t :=
  (exec_chain h).keeps turn (fun _ _ => Special.keeps turn atom) p

/-- `step_keeps` with the special moves taken apart. -/
theorem step_keeps_of_atoms {P : State → Prop} {s t : State}
    (timeless : ∀ s now pending, P s → P { s with now, pending })
    (turn : ∀ s t, Turn s t → P s → P t) (atom : ∀ c s t, Atom c s t → P s → P t)
    (h : step s = .next t) (p : P s) : P t :=
  step_keeps timeless turn (fun c _ _ => Special.keeps turn (atom c)) h p

/-! ### What the moves leave alone -/

section
variable (s : State)

theorem State.seatClaim_frame (tag : Octet) : Frame [.claims, .tx] s (s.seatClaim tag) := by
  unfold State.seatClaim
  split
  · exact .refl _ _
  · refine Frame.trans ?_ (State.requestAnnounce_frame _ _)
    intro b hb; cases b <;> simp [State.agreesOn] at hb ⊢

theorem State.orphanFrame_frame (n : Octet) : Frame [.claims, .tx] s (s.orphanFrame n) := by
  unfold State.orphanFrame
  split
  · exact .refl _ _
  all_goals intro b hb; cases b <;> simp [State.agreesOn] at hb ⊢

theorem State.clearClaim_frame (tag : Octet) : Frame [.claims, .tx] s (s.clearClaim tag) := by
  unfold State.clearClaim
  split
  · exact .refl _ _
  · next c _ =>
    have removed : Frame [.claims, .tx] s (s.removeClaimRecords c.number) := by
      intro b hb; cases b <;> simp [State.agreesOn] at hb ⊢
    exact ((removed.trans (State.orphanFrame_frame _ _)).trans
      ((State.deleteClaim_frame _ _).mono rfl)).trans (State.queueRelease_frame _ _)

theorem State.abandonAnnounced_frame : Frame [.claims, .tx] s s.abandonAnnounced :=
  Frame.foldl (fun t _ => Frame.ite (t.abandonTag_frame _) (Frame.refl _ t)) _ s

theorem State.failAll_frame : Frame [.admission] s s.failAll := by
  intro b hb; cases b <;> simp [State.agreesOn, State.failAll] at hb ⊢

theorem State.failTaken_frame : Frame [.admission, .claims, .tx] s s.failTaken := by
  have fails (i : Nat) (p : Placement) (r : FailReason) : Frame [.admission, .claims, .tx] s
      ((s.abandonTag p.tag).mapPlacement i fun p => p.fail r) :=
    ((s.abandonTag_frame _).mono rfl).trans ((State.mapPlacement_frame _ _ _).mono rfl)
  unfold State.failTaken
  split
  · exact .refl _ _
  · split
    · exact .refl _ _
    · exact .ite (fails _ _ _) (.ite (fails _ _ _) (.refl _ _))

theorem MapStep.frame {s u : State} (h : MapStep s u) : Frame [.map, .walls] s u := by
  cases h with
  | put r => exact (s.putRecord_frame r).mono rfl
  | raise w h => exact s.raiseHeight_frame w h
  | gap w => intro b hb; cases b <;> simp [State.agreesOn] at hb ⊢

/-- The moves of placements with their claims touch placements, claims and transmit queues. -/
theorem State.retract_frame (tag : Octet) (i : Nat) (f : Placement → Placement) :
    Frame [.admission, .claims, .tx] s ((s.abandonTag tag).mapPlacement i f) :=
  ((s.abandonTag_frame _).mono rfl).trans ((State.mapPlacement_frame _ _ _).mono rfl)

theorem State.clear_frame (tag : Octet) (i : Nat) (f : Placement → Placement) :
    Frame [.admission, .claims, .tx] s ((s.clearClaim tag).mapPlacement i f) :=
  ((s.clearClaim_frame _).mono rfl).trans ((State.mapPlacement_frame _ _ _).mono rfl)

theorem State.seat_frame (slot : Slot) (tag : Octet) (i : Nat) (f : Placement → Placement) :
    Frame [.admission, .claims, .tx, .map, .port] s
      (((s.ownInsert slot).seatClaim tag).mapPlacement i f) :=
  (((s.ownInsert_frame slot).mono rfl).trans ((State.seatClaim_frame _ _).mono rfl)).trans
    ((State.mapPlacement_frame _ _ _).mono rfl)

theorem State.mapClaim_frame (n : Octet) (f : OwnClaim → OwnClaim) :
    Frame [.claims] s (s.mapClaim n f) := by
  intro b hb; cases b <;> simp [State.agreesOn] at hb ⊢

theorem State.send_frame (c : OwnClaim) (f : OwnClaim → OwnClaim) (g : Placement → Placement) :
    Frame [.admission, .claims, .tx] s
      (if c.lastSend.isNone then (s.mapClaim c.number f).mapTag c.tag .announcing g
        else s.mapClaim c.number f) :=
  have mapped := (s.mapClaim_frame c.number f).mono (m := [.admission, .claims, .tx]) rfl
  .ite (mapped.trans ((State.mapTag_frame _ _ _ _).mono rfl)) mapped

theorem State.drop_frame (n tag : Octet) (g : Placement → Placement) :
    Frame [.admission, .claims, .tx] s ((s.deleteClaim n).mapTag tag .announcing g) :=
  ((s.deleteClaim_frame n).mono rfl).trans ((State.mapTag_frame _ _ _ _).mono rfl)

theorem State.leave_frame : Frame [.admission, .claims, .tx] s s.abandonAnnounced.failAll :=
  (s.abandonAnnounced_frame.mono rfl).trans ((State.failAll_frame _).mono rfl)

theorem State.firm_frame (n tag : Octet) (f : OwnClaim → OwnClaim) (g : Placement → Placement) :
    Frame [.admission, .claims, .tx] s
      (((s.mapClaim n f).requestAnnounce n).mapTag tag .tentative g) :=
  (((s.mapClaim_frame n f).mono rfl).trans ((State.requestAnnounce_frame _ _).mono rfl)).trans
    ((State.mapTag_frame _ _ _ _).mono rfl)

/-- A move of placements and claims touches them and the transmit queues only. -/
theorem PlacementTurn.frame {s t : State} (h : PlacementTurn s t) :
    Frame [.admission, .claims, .tx] s t := by
  have claims {f : State} (frame : Frame [.claims] s f) : Frame [.admission, .claims, .tx] s f :=
    frame.mono rfl
  have queue (q : List Placement) : Frame [.admission, .claims, .tx] s (s.withQueue q) := by
    intro b hb; cases b <;> simp [State.agreesOn] at hb ⊢
  cases h with
  | queue q => exact queue q
  | own l => intro b hb; cases b <;> simp [State.agreesOn] at hb ⊢
  | told => intro b hb; cases b <;> simp [State.agreesOn] at hb ⊢
  | defers c => exact claims (s.mapClaim_frame _ _)
  | lapses n => exact claims (s.mapClaim_frame _ _)
  | deletes n => exact claims (s.deleteClaim_frame n)
  | waits i p f => exact (s.mapPlacement_frame i f).mono rfl
  | announces i p => exact s.announceHead_frame i p
  | retracts i p f => exact s.retract_frame _ i f
  | sends c => exact s.send_frame c _ _
  | drops c => exact s.drop_frame _ _ _
  | clears i p f => exact s.clear_frame _ i f
  | places p => exact queue _
  | failsAll => exact s.leave_frame

/-- A lost gate touches the cause set, a report owed, the platform and view doubt. -/
theorem Loses.frame {s u : State} (h : Loses s u) :
    Frame [.stop, .port, .admission, .monitor, .notice] s u := by
  cases h with
  | cause c => exact (s.causeJoins_frame c).mono rfl
  | conflict station =>
    exact ((s.causeJoins_frame _).mono rfl).trans ((State.nameConflict_frame _ _).mono rfl)
  | stability new =>
    refine ((s.writeStability_frame new).mono rfl).trans (.ite ?_ ?_)
    · exact (State.causeJoins_frame _ _).mono rfl
    · exact (State.causeLeaves_frame _ _).mono rfl
  | doubt due => intro b hb; cases b <;> simp [State.agreesOn] at hb ⊢

/-- A lost gate leaves the placements in their states. -/
theorem Loses.queue_core {s u : State} (h : Loses s u) :
    u.admission.queue.map Placement.core = s.admission.queue.map Placement.core := by
  have joined (t : State) (c : Cause) :
      (t.causeJoins c).admission.queue.map Placement.core = t.admission.queue.map Placement.core := by
    unfold State.causeJoins
    simp only
    split
    · rfl
    · split
      · rfl
      · simp [State.suspendMotion, State.oweStop, List.map_map, Function.comp_def, Placement.core]
  cases h with
  | cause c => exact joined s c
  | conflict station =>
    have named := (s.causeJoins .claimConflict).nameConflict_frame station
    have same : ((s.causeJoins .claimConflict).nameConflict station).admission
        = (s.causeJoins .claimConflict).admission := named .admission (by decide)
    rw [same]
    exact joined s _
  | stability new =>
    unfold State.stabilityCause
    split
    · exact joined (s.writeStability new) _
    · have left := (s.writeStability new).causeLeaves_frame .stability
      have same : ((s.writeStability new).causeLeaves .stability).admission
          = (s.writeStability new).admission := left .admission (by decide)
      rw [same]
      rfl
  | doubt due => rfl

end

/-! ### The stop controller (R151, R154, R155) -/

/-- A cause is put into the set of the controller. -/
def StopControl.joins (t : StopControl) (c : Cause) : StopControl :=
  if t.causes.has c then t else t.join c

/-- A cause leaves the set of the controller. -/
def StopControl.leaves (t : StopControl) (c : Cause) : StopControl :=
  if t.causes.has c then
    { t with
      causes := t.causes.assign c false
      conflictStation := if c = .claimConflict then none else t.conflictStation }
  else t

/-- What one move can do to the stop controller. -/
inductive StopMove : StopControl → StopControl → Prop
  | stays (t : StopControl) : StopMove t t
  | filters (t : StopControl) (low : Bool) (differ filter : Nat) :
      StopMove t { t with lstopStop := low, lstopDiffer := differ, lstopFilter := filter }
  | joins (t : StopControl) (c : Cause) (other : c ≠ .claimConflict) : StopMove t (t.joins c)
  | conflict (t : StopControl) (station : Nat) (absent : t.causes.claimConflict = false) :
      StopMove t { t.join .claimConflict with conflictStation := some station }
  | leaves (t : StopControl) (c : Cause) : StopMove t (t.leaves c)
  | renames (t : StopControl) (station : Nat) (present : t.causes.claimConflict = true) :
      StopMove t { t with conflictStation := some station }
  | releases (t : StopControl) (empty : t.causes.isEmpty = true) : StopMove t t.release

theorem State.causeJoins_stop (s : State) (c : Cause) :
    (s.causeJoins c).stop = s.stop.joins c := by
  unfold State.causeJoins StopControl.joins
  simp only
  split
  · rfl
  · split <;> rfl

theorem State.causeLeaves_stop (s : State) (c : Cause) :
    (s.causeLeaves c).stop = s.stop.leaves c := by
  unfold State.causeLeaves StopControl.leaves
  split <;> rfl

theorem State.nameConflict_stop (s : State) (station : Nat) :
    (s.nameConflict station).stop = { s.stop with conflictStation := some station } := by
  unfold State.nameConflict
  split
  · next same => rw [← same]
  · rfl

theorem State.stabilityCause_stop (s : State) (new : Stability) :
    (s.stabilityCause new).stop
      = if new = .halted then s.stop.joins .stability else s.stop.leaves .stability := by
  unfold State.stabilityCause
  split
  · exact s.causeJoins_stop _
  · exact s.causeLeaves_stop _

theorem Loses.stopMove {s u : State} (h : Loses s u) : StopMove s.stop u.stop := by
  cases h with
  | cause c _ other => exact s.causeJoins_stop c ▸ .joins _ c other
  | conflict station absent =>
    rw [State.nameConflict_stop, State.causeJoins_stop, StopControl.joins,
      if_neg (by simpa [CauseSet.has] using absent)]
    exact .conflict _ station absent
  | stability new =>
    rw [State.stabilityCause_stop]
    split
    · exact .joins _ _ (by decide)
    · exact .leaves _ _
  | doubt due => exact .stays _

theorem Turn.stopMove {s t : State} (h : Turn s t) : StopMove s.stop t.stop := by
  have framed {l : List Block} {u : State} (frame : Frame l s u) (untouched : Block.stop ∉ l) :
      StopMove s.stop u.stop := by
    have same : u.stop = s.stop := frame .stop untouched
    exact same ▸ .stays _
  cases h with
  | lstop low differ filter => exact .filters _ low differ filter
  | loses u lost =>
    have same : u.yieldAnnounced.stop = u.stop := u.yieldAnnounced_frame .stop (by decide)
    exact same ▸ lost.stopMove
  | leaves c => exact s.causeLeaves_stop c ▸ .leaves _ c
  | renames station present => exact s.nameConflict_stop station ▸ .renames _ station present
  | relaxes new _ better =>
    rw [State.stabilityCause_stop, if_neg better]
    exact .leaves _ _
  | releases empty => exact .releases _ empty
  | placing _ placed => exact framed placed.frame (by decide)
  | seats i p => exact framed (s.seat_frame _ _ i _) (by decide)
  | maps u mapped =>
    have same : u.failTaken.stop = u.stop := u.failTaken_frame .stop (by decide)
    rw [same]
    exact framed mapped.frame (by decide)
  | _ => exact .stays _

/-- After a cause has joined, the causes seen hold every cause present. -/
theorem StopControl.join_seen {t : StopControl} (c : Cause) (sound : t.Sound) (x : Cause)
    (has : (t.join c).causes.has x = true) : x ∈ (t.join c).seen := by
  obtain ⟨-, emptied, seen, -, -⟩ := sound
  rw [(t.join_has c x).2, Bool.or_eq_true, beq_iff_eq] at has
  simp only [StopControl.join]
  cases latch : t.latch with
  | false =>
    rcases has with rfl | present
    · simp
    · simpa [(emptied latch).2] using seen x present
  | true =>
    rw [if_pos rfl]
    rcases has with rfl | present
    · split
      · next member => exact List.contains_iff_mem.mp member
      · simp
    · have := seen x present
      split <;> simp [this]

/-- After a cause has joined, none is seen twice. -/
theorem StopControl.join_nodup {t : StopControl} (c : Cause) (sound : t.Sound) :
    (t.join c).seen.Nodup := by
  obtain ⟨-, -, -, nodup, -⟩ := sound
  simp only [StopControl.join]
  split
  · split
    · exact nodup
    · next fresh =>
      refine List.nodup_append.mpr ⟨nodup, List.nodup_singleton _, ?_⟩
      intro x hx y hy same
      obtain rfl := List.mem_singleton.mp hy
      exact fresh (List.contains_iff_mem.mpr (same ▸ hx))
  · exact List.nodup_singleton _

theorem StopMove.keeps_sound {t u : StopControl} (h : StopMove t u) (sound : t.Sound) : u.Sound := by
  have ⟨latched, emptied, seen, nodup, named⟩ := sound
  cases h with
  | stays => exact sound
  | filters => exact sound
  | joins c other =>
    unfold StopControl.joins
    split
    · exact sound
    · have same : (t.join c).causes.claimConflict = t.causes.claimConflict := by
        cases c <;> first | rfl | exact absurd rfl other
      exact ⟨fun _ => rfl, nofun, StopControl.join_seen c sound, StopControl.join_nodup c sound,
        same ▸ named⟩
  | conflict station absent =>
    exact ⟨fun _ => rfl, nofun, StopControl.join_seen _ sound, StopControl.join_nodup _ sound,
      by simp [StopControl.join, CauseSet.assign]⟩
  | leaves c =>
    unfold StopControl.leaves
    split
    · next present =>
      have latch : t.latch = true := latched (by
        by_contra empty
        simp [(CauseSet.isEmpty_iff _).mp (by simpa using empty) c] at present)
      refine ⟨fun _ => latch, fun released => absurd released (by simp [latch]), fun x has => ?_, nodup,
        ?_⟩
      · rw [CauseSet.has_assign] at has
        split at has
        · cases has
        · exact seen x has
      · cases c <;> simp [CauseSet.assign, named]
    · exact sound
  | renames station present => exact ⟨latched, emptied, seen, nodup, by simp [present]⟩
  | releases empty =>
    have none_present := (CauseSet.isEmpty_iff _).mp empty
    refine ⟨fun present => absurd empty (by simpa [StopControl.release] using present),
      fun _ => ⟨rfl, rfl⟩, fun x has => ?_, List.nodup_nil, named⟩
    have := none_present x
    simp only [StopControl.release] at has
    simp [this] at has

theorem StopControl.restart_sound {t : StopControl} (sound : t.Sound) : t.restart.Sound := by
  have ⟨latched, emptied, seen, nodup, named⟩ := sound
  unfold StopControl.restart
  split
  · exact sound
  · next released =>
    refine ⟨fun _ => rfl, nofun, fun x has => ?_, List.nodup_nil, named⟩
    have member := seen x has
    simp [(emptied (by simpa using released)).2] at member

theorem StopControl.afterRestart_sound (t : StopControl) (i : RestartInputs) :
    (t.afterRestart i).Sound := by
  refine ⟨fun _ => rfl, nofun, fun x has => ?_, ?_, ?_⟩
  · simp only [StopControl.afterRestart, CauseSet.toList] at has ⊢
    refine List.mem_filter.mpr ⟨?_, has⟩
    cases x <;> decide
  · exact List.Nodup.filter _ (by decide)
  · simp [StopControl.afterRestart, restartCauses, CauseSet.empty]

theorem StopControl.reset_sound : State.reset.stop.Sound := by
  refine ⟨fun _ => rfl, nofun, fun x has => ?_, by decide, by decide⟩
  cases x <;> simp [State.reset, CauseSet.has, CauseSet.empty] at has ⊢

theorem State.cutWalk_stop (s : State) : s.cutWalk.stop = s.stop := by
  unfold State.cutWalk
  split
  · split <;> rfl
  · rfl
  · rfl

theorem Atom.keeps_sound {c : Instr} {s t : State} (h : Atom c s t) (sound : s.stop.Sound) :
    t.stop.Sound := by
  cases h with
  | firms own =>
    have same : (((s.mapClaim own.number OwnClaim.firm).requestAnnounce own.number).mapTag own.tag
        .tentative fun p => p.firm s.now).stop = s.stop := s.firm_frame _ _ _ _ .stop (by decide)
    exact same ▸ sound
  | restarts cause hold =>
    have same : s.beginRestart.stop = s.stop.restart := congrArg StopControl.restart s.cutWalk_stop
    exact same ▸ StopControl.restart_sound sound
  | off hold => exact StopControl.reset_sound
  | cold i => exact StopControl.afterRestart_sound _ i
  | warms i => exact StopControl.afterRestart_sound _ i
  | _ => exact sound

/-- Settles O51: every move of the stop controller keeps its record. -/
theorem stopRecordStaysSound : Obligations.StopRecordStaysSound := fun _ _ sound h =>
  step_keeps_of_atoms (P := fun s => s.stop.Sound) (fun _ _ _ => id)
    (fun _ _ turn => turn.stopMove.keeps_sound) (fun _ _ _ => Atom.keeps_sound) h sound

end Sys2Proof.Machine

namespace Sys2Proof.Machine

/-! ### The platform (R143, R148, R151) -/

theorem StopControl.joins_stability {t : StopControl} {c : Cause} (other : c ≠ .stability) :
    (t.joins c).causes.stability = t.causes.stability := by
  unfold StopControl.joins
  split
  · rfl
  · cases c <;> first | rfl | exact absurd rfl other

theorem StopControl.leaves_stability {t : StopControl} {c : Cause} (other : c ≠ .stability) :
    (t.leaves c).causes.stability = t.causes.stability := by
  unfold StopControl.leaves
  split
  · cases c <;> first | rfl | exact absurd rfl other
  · rfl

theorem StopControl.stability_of_joins (t : StopControl) :
    (t.joins .stability).causes.stability = true := by
  unfold StopControl.joins
  split
  · next present => exact present
  · rfl

theorem StopControl.stability_of_leaves (t : StopControl) :
    (t.leaves .stability).causes.stability = false := by
  unfold StopControl.leaves
  split
  · rfl
  · next absent => simpa [CauseSet.has] using absent

/-- The platform and its cause stand as they were, or the stability state becomes another, on the site or
HALTED, and STABILITY follows it. -/
def PlatformMove (s t : State) : Prop :=
  t.site.state = s.site.state
    ∧ ((t.monitor.state = s.monitor.state ∧ t.stop.causes.stability = s.stop.causes.stability)
      ∨ ∃ new, s.monitor.state ≠ new ∧ t.monitor.state = new
        ∧ (t.stop.causes.stability = true ↔ new = .halted)
        ∧ (s.site.state.onSite = true ∨ new = .halted))

theorem PlatformMove.of_frame {l : List Block} {s t : State} (frame : Frame l s t)
    (untouched : Block.site ∉ l ∧ Block.monitor ∉ l ∧ Block.stop ∉ l) : PlatformMove s t := by
  have site : t.site = s.site := frame .site untouched.1
  have monitor : t.monitor = s.monitor := frame .monitor untouched.2.1
  have stop : t.stop = s.stop := frame .stop untouched.2.2
  exact ⟨by rw [site], .inl ⟨by rw [monitor], by rw [stop]⟩⟩

/-- The stability state written, with its cause put in or taken out. -/
theorem PlatformMove.write (s : State) {new : Stability} (change : s.monitor.state ≠ new)
    (joined : s.site.state.onSite = true ∨ new = .halted) :
    PlatformMove s ((s.writeStability new).stabilityCause new) := by
  have frame := (s.writeStability new).stabilityCause_cascade new
  have site : ((s.writeStability new).stabilityCause new).site = (s.writeStability new).site :=
    frame .site (by decide)
  have monitor : ((s.writeStability new).stabilityCause new).monitor = (s.writeStability new).monitor :=
    frame .monitor (by decide)
  refine ⟨by rw [site]; rfl, .inr ⟨new, change, by rw [monitor]; rfl, ?_, joined⟩⟩
  rw [State.stabilityCause_stop]
  split
  · next halted => simp [halted, StopControl.stability_of_joins]
  · next better => simp [better, StopControl.stability_of_leaves]

theorem Loses.platformMove {s u : State} (h : Loses s u) : PlatformMove s u := by
  cases h with
  | cause c _ _ platform =>
    have frame := s.causeJoins_frame c
    have site : (s.causeJoins c).site = s.site := frame .site (by decide)
    have monitor : (s.causeJoins c).monitor = s.monitor := frame .monitor (by decide)
    exact ⟨by rw [site], .inl ⟨by rw [monitor],
      by rw [State.causeJoins_stop, StopControl.joins_stability platform]⟩⟩
  | conflict station =>
    have frame := (s.causeJoins_frame .claimConflict).trans
      (((s.causeJoins .claimConflict).nameConflict_frame station).mono rfl)
    have site : ((s.causeJoins .claimConflict).nameConflict station).site = s.site :=
      frame .site (by decide)
    have monitor : ((s.causeJoins .claimConflict).nameConflict station).monitor = s.monitor :=
      frame .monitor (by decide)
    refine ⟨by rw [site], .inl ⟨by rw [monitor], ?_⟩⟩
    rw [State.nameConflict_stop, State.causeJoins_stop]
    exact StopControl.joins_stability (by decide)
  | stability new change _ joined => exact .write s change joined
  | doubt due => exact ⟨rfl, .inl ⟨rfl, rfl⟩⟩

theorem PlatformMove.trans_frame {l : List Block} {s t u : State} (h : PlatformMove s t)
    (frame : Frame l t u) (untouched : Block.site ∉ l ∧ Block.monitor ∉ l ∧ Block.stop ∉ l) :
    PlatformMove s u := by
  have site : u.site = t.site := frame .site untouched.1
  have monitor : u.monitor = t.monitor := frame .monitor untouched.2.1
  have stop : u.stop = t.stop := frame .stop untouched.2.2
  unfold PlatformMove at h ⊢
  rwa [site, monitor, stop]

theorem Turn.platformMove {s t : State} (h : Turn s t) : PlatformMove s t := by
  cases h with
  | site x same => exact ⟨same, .inl ⟨rfl, rfl⟩⟩
  | monitor x same => exact ⟨rfl, .inl ⟨same, rfl⟩⟩
  | placing _ placed => exact .of_frame placed.frame (by decide)
  | seats i p => exact .of_frame (s.seat_frame _ _ i _) (by decide)
  | loses u lost => exact lost.platformMove.trans_frame u.yieldAnnounced_frame (by decide)
  | leaves c platform =>
    have frame := s.causeLeaves_frame c
    have site : (s.causeLeaves c).site = s.site := frame .site (by decide)
    have monitor : (s.causeLeaves c).monitor = s.monitor := frame .monitor (by decide)
    exact ⟨by rw [site], .inl ⟨by rw [monitor],
      by rw [State.causeLeaves_stop, StopControl.leaves_stability platform]⟩⟩
  | renames station =>
    have frame := s.nameConflict_frame station
    have site : (s.nameConflict station).site = s.site := frame .site (by decide)
    have monitor : (s.nameConflict station).monitor = s.monitor := frame .monitor (by decide)
    exact ⟨by rw [site], .inl ⟨by rw [monitor], by rw [State.nameConflict_stop]⟩⟩
  | relaxes new _ _ change joined => exact .write s change (.inl joined)
  | maps u mapped =>
    exact (PlatformMove.of_frame mapped.frame (by decide)).trans_frame u.failTaken_frame (by decide)
  | _ => exact ⟨rfl, .inl ⟨rfl, rfl⟩⟩

theorem PlatformMove.keeps_stabilitySound {s t : State} (h : PlatformMove s t)
    (sound : s.StabilitySound) : t.StabilitySound := by
  obtain ⟨site, ⟨monitor, cause⟩ | ⟨new, -, monitor, cause, joined⟩⟩ := h
  · unfold State.StabilitySound
    rw [site, monitor, cause]
    exact sound
  · refine ⟨by rw [cause, monitor], fun off => ?_⟩
    rw [monitor]
    rw [site] at off
    exact joined.resolve_left (by simp [off])

theorem Turns.keeps_stabilitySound {s t : State} (h : Turns s t) (sound : s.StabilitySound) :
    t.StabilitySound :=
  h.keeps (fun _ _ turn => turn.platformMove.keeps_stabilitySound) sound

/-- The stability state made HALTED: the platform is HALTED, wherever the station is. -/
theorem State.setStability_halted (s : State) : (s.setStability .halted).monitor.state = .halted := by
  unfold State.setStability
  split
  · next same => exact same
  · rw [if_pos (by simp)]
    have lost : Frame cascade ((s.writeStability .halted).stabilityCause .halted)
        ((s.writeStability .halted).stabilityCause .halted).gateLost := State.gateLost_cascade _
    have joined := (s.writeStability .halted).stabilityCause_cascade .halted
    have same : (((s.writeStability .halted).stabilityCause .halted).gateLost).monitor
        = (s.writeStability .halted).monitor :=
      (lost .monitor (by decide)).trans (joined .monitor (by decide))
    rw [same]
    rfl

theorem State.cutWalk_kept (s : State) :
    s.cutWalk.stop = s.stop ∧ s.cutWalk.monitor = s.monitor ∧ s.cutWalk.site = s.site := by
  unfold State.cutWalk
  split
  · split <;> exact ⟨rfl, rfl, rfl⟩
  · exact ⟨rfl, rfl, rfl⟩
  · exact ⟨rfl, rfl, rfl⟩

theorem StopControl.restart_causes (t : StopControl) : t.restart.causes = t.causes := by
  unfold StopControl.restart
  split <;> rfl

/-- The special moves keep the platform's cause; LEAVING ends in HALTED (R143, R181). -/
theorem Special.keeps_stabilitySound {c : Instr} {s t : State} (h : Special c s t)
    (sound : s.StabilitySound) : t.StabilitySound := by
  have moved {x : SiteState} (off : x.onSite = false → s.site.state.onSite = false) :
      (s.enterSite x).StabilitySound := ⟨sound.1, fun k => sound.2 (off k)⟩
  cases h with
  | firms own =>
    exact (PlatformMove.of_frame (s.firm_frame _ _ _ _) (by decide)).keeps_stabilitySound sound
  | defines f d => exact sound
  | cures cls datum threshold =>
    have kept : (s.mapClass cls.toNat fun x => x.configure datum.toInt threshold.toNat).StabilitySound :=
      sound
    exact Turns.keeps_stabilitySound (.ite (State.conversionWalk_turns _ _) (.refl _)) kept
  | ticks =>
    have kept : ({ s with cure := s.cure.advance s.monitor.ambient } : State).StabilitySound := sound
    exact ((State.oweSiteIf_turns _ _).trans (State.sweep_turns _)).keeps_stabilitySound kept
  | configures f request unconfigured => exact moved fun _ => by rw [unconfigured]; rfl
  | starts request configured => exact moved nofun
  | online command listening => exact moved nofun
  | leaving request joined => exact moved nofun
  | ended u cause leaving moves =>
    have left : (s.enterSite .configured).stop.causes.stability = true ↔
        (s.enterSite .configured).monitor.state = .halted := sound.1
    have cause_of : ∀ v, Turns (s.enterSite .configured) v →
        (v.stop.causes.stability = true ↔ v.monitor.state = .halted) := fun v turns =>
      turns.keeps (P := fun v => v.stop.causes.stability = true ↔ v.monitor.state = .halted)
        (fun a b turn same => by
          obtain ⟨-, ⟨monitor, cause⟩ | ⟨new, -, monitor, cause, -⟩⟩ := turn.platformMove
          · rw [monitor, cause]; exact same
          · rw [cause, monitor]) left
    exact ⟨cause_of _ (moves.trans (u.setStability_turns _ (.inr rfl))),
      fun _ => u.setStability_halted⟩
  | held cause hold => exact sound
  | restarts cause hold =>
    obtain ⟨stop, monitor, site⟩ := s.cutWalk_kept
    have causes : s.beginRestart.stop.causes = s.stop.causes :=
      (StopControl.restart_causes _).trans (congrArg StopControl.causes stop)
    have stands : s.beginRestart.monitor = s.monitor := monitor
    have stays : s.beginRestart.site = s.site := site
    unfold State.StabilitySound
    simp only [causes, stands, stays]
    exact sound
  | off hold => exact ⟨⟨fun _ => rfl, fun _ => rfl⟩, fun _ => rfl⟩
  | cold i => exact ⟨⟨fun _ => rfl, fun _ => rfl⟩, fun _ => rfl⟩
  | warm i =>
    have taken : (s.warmKept.takeInputs i).StabilitySound :=
      ⟨⟨fun _ => rfl, fun _ => rfl⟩, fun _ => rfl⟩
    exact Turns.keeps_stabilitySound
      (Turns.trans (.ite (State.beginBlocks_turns _) (.refl _)) (State.sweep_turns _)) taken

/-- Settles O52: STABILITY follows every change of the stability state, and LEAVING ends in HALTED. -/
theorem stabilityStaysWithItsCause : Obligations.StabilityStaysWithItsCause := fun _ _ sound h =>
  step_keeps (P := State.StabilitySound) (fun _ _ _ => id)
    (fun _ _ turn => turn.platformMove.keeps_stabilitySound) (fun _ _ _ => Special.keeps_stabilitySound)
    h sound

end Sys2Proof.Machine

namespace Sys2Proof.Machine

/-! ### The course map's order (R11) -/

theorem State.mapSound_iff {s : State} : s.MapSound ↔
    (s.map.records.map SlotRecord.slot).Pairwise (fun a b => a.before b = true)
      ∧ ∀ k ∈ s.map.records.map SlotRecord.slot, (s.wall k.wall).solidHeight ≤ k.course := by
  simp [State.MapSound, List.pairwise_map]

/-- Records with the same slots, in walls of the same heights. -/
theorem State.MapSound.of_same {s t : State} (sound : s.MapSound)
    (slots : t.map.records.map SlotRecord.slot = s.map.records.map SlotRecord.slot)
    (heights : ∀ w, (t.wall w).solidHeight = (s.wall w).solidHeight) : t.MapSound := by
  rw [State.mapSound_iff] at sound ⊢
  rw [slots]
  exact ⟨sound.1, fun k hk => (heights _).trans_le (sound.2 k hk)⟩

theorem State.MapSound.of_frame {l : List Block} {s t : State} (sound : s.MapSound)
    (frame : Frame l s t) (untouched : Block.map ∉ l ∧ Block.walls ∉ l) : t.MapSound := by
  have map : t.map = s.map := frame .map untouched.1
  have walls : t.walls = s.walls := frame .walls untouched.2
  exact sound.of_same (by rw [map]) fun w => by simp only [State.wall, walls]

theorem SlotRecord.map_slot_of_core {l m : List SlotRecord}
    (same : l.map SlotRecord.core = m.map SlotRecord.core) :
    l.map SlotRecord.slot = m.map SlotRecord.slot := by
  simpa [List.map_map, Function.comp_def, SlotRecord.core] using congrArg (List.map Prod.fst) same

theorem State.MapSound.putRecord {s : State} {r : SlotRecord} (sound : s.MapSound)
    (above : (s.wall r.slot.wall).solidHeight ≤ r.slot.course) : (s.putRecord r).MapSound := by
  refine ⟨insertRecord_pairwise r sound.1, fun x member => ?_⟩
  rcases mem_insertRecord member with rfl | member
  · exact above
  · exact sound.2 x member

theorem State.MapSound.above_of_recordAt {s : State} {slot : Slot} {r : SlotRecord}
    (sound : s.MapSound) (found : s.recordAt slot = some r) :
    (s.wall slot.wall).solidHeight ≤ slot.course :=
  State.recordAt_slot found ▸ sound.2 r (State.mem_records_of_recordAt found)

/-- A wall's place after its solid height has risen. -/
theorem State.wall_raiseHeight (s : State) (w h v : Nat) :
    (s.raiseHeight w h).wall v = if w = v ∧ v < s.walls.length then
      { s.wall v with
        solidHeight := h
        heightOwed := (s.wall v).heightOwed || s.map.records.any fun r => r.under w h && r.own && r.owed }
    else s.wall v :=
  State.wall_mapWall _ w v _

theorem State.MapSound.raiseHeight {s : State} (sound : s.MapSound) (w h : Nat) :
    (s.raiseHeight w h).MapSound := by
  refine ⟨sound.1.filter _, fun r member => ?_⟩
  obtain ⟨stands, left⟩ := List.mem_filter.mp member
  rw [State.wall_raiseHeight]
  split
  · next same =>
    simpa [SlotRecord.under, same.1] using left
  · exact sound.2 r stands

theorem MapStep.keeps_mapSound {s u : State} (h : MapStep s u) (sound : s.MapSound) : u.MapSound := by
  cases h with
  | put r _ new old =>
    refine sound.putRecord ?_
    cases found : s.recordAt r.slot with
    | none => exact (new found).2.2.1
    | some x => exact sound.above_of_recordAt found
  | raise w h => exact sound.raiseHeight w h
  | gap w =>
    refine sound.of_same rfl fun v => ?_
    rw [State.wall_mapWall]
    split <;> rfl

theorem State.solidHeight_le_of_readSlot {s : State} {slot : Slot} (unretired : s.readSlot slot ≠ .retired) :
    (s.wall slot.wall).solidHeight ≤ slot.course := by
  by_contra below
  exact unretired (by simp [State.readSlot, Nat.lt_of_not_le below])

theorem State.recordAt_of_readSlot_vacant {s : State} {slot : Slot} (vacant : s.readSlot slot = .vacant) :
    s.recordAt slot = none := by
  unfold State.readSlot at vacant
  split at vacant
  · cases vacant
  · split at vacant
    · assumption
    · split at vacant <;> cases vacant

/-- The own insert leaves the records, or puts an own record: a fresh WET one on an OPEN slot, or one for a
peer's, SET if that was SET and else freshly WET (R12). -/
theorem State.ownInsert_records (s : State) (slot : Slot) :
    (s.ownInsert slot).map.records = s.map.records
      ∨ ∃ r : SlotRecord, r.slot = slot ∧ r.own = true
        ∧ (s.wall slot.wall).solidHeight ≤ slot.course
        ∧ (s.ownInsert slot).map.records = insertRecord r s.map.records
        ∧ ((s.recordAt slot = none ∧ r.state = .wet (s.wallClass slot.wall).accum)
          ∨ ∃ x, s.recordAt slot = some x ∧ x.own = false
            ∧ r.state = if x.isSet then .set else .wet (s.wallClass slot.wall).accum) := by
  unfold State.ownInsert
  simp only
  split
  · exact .inl rfl
  · next vacant =>
    have unretired : s.readSlot slot ≠ .retired := by simp [vacant]
    exact .inr ⟨_, rfl, rfl, State.solidHeight_le_of_readSlot unretired, rfl,
      .inl ⟨State.recordAt_of_readSlot_vacant vacant, rfl⟩⟩
  all_goals
    next laid =>
    have unretired : s.readSlot slot ≠ .retired := by simp [laid]
    split
    · exact .inl rfl
    · next x found =>
      split
      · exact .inl rfl
      · next peer =>
        exact .inr ⟨_, rfl, rfl, State.solidHeight_le_of_readSlot unretired, rfl,
          .inr ⟨x, found, by simpa using peer, rfl⟩⟩

theorem State.seat_map (s : State) (slot : Slot) (tag : Octet) (i : Nat) (f : Placement → Placement) :
    (((s.ownInsert slot).seatClaim tag).mapPlacement i f).map = (s.ownInsert slot).map
      ∧ (((s.ownInsert slot).seatClaim tag).mapPlacement i f).walls = s.walls := by
  have seated := ((s.ownInsert slot).seatClaim_frame tag)
  have inserted := s.ownInsert_frame slot
  have map : ((s.ownInsert slot).seatClaim tag).map = (s.ownInsert slot).map := seated .map (by decide)
  have walls : ((s.ownInsert slot).seatClaim tag).walls = (s.ownInsert slot).walls :=
    seated .walls (by decide)
  have kept : (s.ownInsert slot).walls = s.walls := inserted .walls (by decide)
  exact ⟨map, walls.trans kept⟩

theorem Turn.keeps_mapSound {s t : State} (h : Turn s t) (sound : s.MapSound) : t.MapSound := by
  cases h with
  | walls x same => exact sound.of_same rfl fun w => (same w).2.1
  | records x same => exact sound.of_same (SlotRecord.map_slot_of_core same) fun _ => rfl
  | placing _ placed => exact sound.of_frame placed.frame (by decide)
  | seats i p =>
    obtain ⟨map, walls⟩ := s.seat_map p.target p.tag i Placement.seat
    unfold State.MapSound State.wall
    rw [map, walls]
    rcases s.ownInsert_records p.target with same | ⟨r, slot, -, above, records, -⟩
    · rw [same]; exact sound
    · rw [records]; exact sound.putRecord (slot ▸ above)
  | loses u lost =>
    exact (sound.of_frame lost.frame (by decide)).of_frame u.yieldAnnounced_frame (by decide)
  | leaves c => exact sound.of_frame (s.causeLeaves_frame c) (by decide)
  | renames station => exact sound.of_frame (s.nameConflict_frame station) (by decide)
  | relaxes new =>
    exact sound.of_frame (((s.writeStability_frame new).mono rfl).trans
      (((s.writeStability new).stabilityCause_cascade new).mono (m := .monitor :: cascade) rfl))
      (by decide)
  | maps u mapped => exact (mapped.keeps_mapSound sound).of_frame u.failTaken_frame (by decide)
  | _ => exact sound

theorem State.cutWalk_frame (s : State) : Frame [.cure] s s.cutWalk := by
  unfold State.cutWalk
  split
  · split
    · intro b hb; cases b <;> simp [State.agreesOn] at hb ⊢
    · exact .refl _ _
  · exact .refl _ _
  · exact .refl _ _

theorem State.beginRestart_frame (s : State) :
    Frame [.cure, .stop, .port, .tx, .admission] s s.beginRestart := by
  refine (s.cutWalk_frame.mono rfl).trans ?_
  intro b hb; cases b <;> simp [State.agreesOn, State.beginRestart] at hb ⊢

theorem State.warmKept_wall (s : State) (i : RestartInputs) (w : Nat) :
    (s.warmKept.takeInputs i).wall w = (s.wall w).offSite :=
  getD_map_of_default WallPlace.offSite .absent rfl _ _

theorem WallPlace.define_solidHeight (p : WallPlace) (d : WallDef) :
    (p.define d).solidHeight ≤ p.solidHeight := by
  unfold WallPlace.define
  split
  · exact le_rfl
  · exact Nat.zero_le _

theorem Atom.keeps_mapSound {c : Instr} {s t : State} (h : Atom c s t) (sound : s.MapSound) :
    t.MapSound := by
  cases h with
  | firms own => exact sound.of_frame (s.firm_frame _ _ _ _) (by decide)
  | defines f d =>
    refine ⟨sound.1, fun r member => ?_⟩
    have above := sound.2 r member
    rw [State.wall_mapWall]
    split
    · exact (WallPlace.define_solidHeight _ d).trans above
    · exact above
  | restarts cause hold =>
    have frame : Frame [.supply, .cure, .stop, .port, .tx, .admission] s
        { s.beginRestart with supply := { s.beginRestart.supply with hold := some hold } } := by
      refine (s.beginRestart_frame.mono rfl).trans ?_
      intro b hb; cases b <;> simp [State.agreesOn] at hb ⊢
    exact sound.of_frame frame (by decide)
  | off hold => exact ⟨.nil, fun _ member => absurd member List.not_mem_nil⟩
  | cold i => exact ⟨.nil, fun _ member => absurd member List.not_mem_nil⟩
  | warms i => exact sound.of_same rfl fun w => by rw [State.warmKept_wall]; rfl
  | _ => exact sound

/-- Settles O54: each change of the map keeps its order and its floor. -/
theorem mapStaysInKeyOrder : Obligations.MapStaysInKeyOrder := fun _ _ sound h =>
  step_keeps_of_atoms (P := State.MapSound) (fun _ _ _ => id)
    (fun _ _ => Turn.keeps_mapSound) (fun _ _ _ => Atom.keeps_mapSound) h sound

end Sys2Proof.Machine

namespace Sys2Proof.Machine

/-! ### What a move does to the placement queue -/

/-- The states through which a placement moves, but for the announce and the FIRM decision. -/
inductive StateMove : PlacementState → PlacementState → Prop
  | waits {x y : PlacementState} (head : x.waits = true) (next : y.waits = true ∨ y.terminal = true) :
      StateMove x y
  | retracts {x y : PlacementState} (announced : x.announced = true)
      (next : y.waits = true ∨ y.terminal = true) : StateMove x y
  | sends : StateMove .announcing .tentative
  | seats : StateMove .firm .seated
  | clears {x y : PlacementState} (held : x.inCells = true) (next : y.terminal = true) : StateMove x y

/-- A placement's target lies on a defined wall. -/
def State.Grounded (s : State) (p : Placement) : Prop :=
  (s.wall p.target.wall).definition.isSome = true

/-- What one move can do to the placement queue; a head that announces satisfies `A`, a new placement
`N`. -/
inductive QueueMove (A N : Placement → Prop) : List Placement → List Placement → Prop
  | same {q r : List Placement} (core : r.map Placement.core = q.map Placement.core) : QueueMove A N q r
  | changes (before after : List Placement) {p x : Placement}
      (named : x.tag = p.tag ∧ x.target = p.target) (move : StateMove p.state x.state) :
      QueueMove A N (before ++ p :: after) (before ++ x :: after)
  | announces (before after : List Placement) {p x : Placement}
      (named : x.tag = p.tag ∧ x.target = p.target) (head : p.state.waits = true)
      (next : x.state = .announcing) (judged : A p)
      (closed : ∀ q ∈ before ++ p :: after, q.state.closes = false) :
      QueueMove A N (before ++ p :: after) (before ++ x :: after)
  | appends {q : List Placement} {p : Placement} (room : q.length < Config.queueCapacity)
      (fresh : ∀ x ∈ q, x.tag = p.tag → x.state.terminal = true) (queued : p.state = .queued)
      (placed : N p) :
      QueueMove A N q (q ++ [p])
  | failsAll {q : List Placement} (clear : ∀ p ∈ q, p.state.inCells = false) :
      QueueMove A N q (q.map fun p => if p.state.terminal then p else p.changedTo (p.fail .left))

theorem List.split_of_getElem? {α : Type} {l : List α} {i : Nat} {a : α} (place : l[i]? = some a) :
    ∃ before after, l = before ++ a :: after ∧ before.length = i := by
  obtain ⟨lt, rfl⟩ := List.getElem?_eq_some_iff.mp place
  exact ⟨l.take i, l.drop (i + 1), by simp, by simp; omega⟩

/-- A placement changed at its place, in a state whose queue is that of another. -/
theorem State.mapPlacement_queue {s u : State} (same : u.admission = s.admission)
    {before after : List Placement} {p : Placement} (queue : s.admission.queue = before ++ p :: after)
    (f : Placement → Placement) :
    (u.mapPlacement before.length f).admission.queue = before ++ p.changedTo (f p) :: after := by
  have split : u.admission.queue = before ++ p :: after := by rw [same]; exact queue
  rw [State.mapPlacement_split split]
  rfl

theorem QueueMove.mapPlacement {A N : Placement → Prop} {s u : State} (same : u.admission = s.admission) {i : Nat}
    {p : Placement} (place : s.admission.queue[i]? = some p) {f : Placement → Placement}
    (named : (f p).tag = p.tag ∧ (f p).target = p.target) (move : StateMove p.state (f p).state) :
    QueueMove A N s.admission.queue (u.mapPlacement i f).admission.queue := by
  obtain ⟨before, after, queue, rfl⟩ := List.split_of_getElem? place
  rw [State.mapPlacement_queue same queue, queue]
  exact .changes before after named move

/-- The placement with a tag and a state, at its place. -/
theorem State.tagIndex_spec {s : State} {tag : Octet} {x : PlacementState} {i : Nat}
    (found : s.tagIndex tag x = some i) :
    ∃ p, s.admission.queue[i]? = some p ∧ p.tag = tag ∧ p.state = x := by
  obtain ⟨lt, holds, -⟩ := List.findIdx?_eq_some_iff_getElem.mp found
  simp only [Bool.and_eq_true, beq_iff_eq] at holds
  exact ⟨_, List.getElem?_eq_getElem lt, holds⟩

theorem State.tagIndex_congr {s u : State} (same : u.admission = s.admission) (tag : Octet)
    (x : PlacementState) : u.tagIndex tag x = s.tagIndex tag x := by
  simp only [State.tagIndex, same]

/-- A placement changed by its tag and state is changed at its place, or none is. -/
theorem State.mapTag_cases {s u : State} (same : u.admission = s.admission) (tag : Octet)
    (x : PlacementState) (f : Placement → Placement) :
    (s.tagIndex tag x = none ∧ u.mapTag tag x f = u)
      ∨ ∃ i p, s.tagIndex tag x = some i ∧ s.admission.queue[i]? = some p ∧ p.tag = tag
        ∧ p.state = x ∧ u.mapTag tag x f = u.mapPlacement i f := by
  unfold State.mapTag
  rw [State.tagIndex_congr same]
  cases found : s.tagIndex tag x with
  | none => exact .inl ⟨rfl, rfl⟩
  | some i =>
    obtain ⟨p, place, tagged, state⟩ := State.tagIndex_spec found
    exact .inr ⟨i, p, rfl, place, tagged, state, rfl⟩

theorem QueueMove.mapTag {A N : Placement → Prop} {s u : State} (same : u.admission = s.admission) {tag : Octet}
    {x : PlacementState} {f : Placement → Placement}
    (moves : ∀ p : Placement, p.state = x →
      ((f p).tag = p.tag ∧ (f p).target = p.target) ∧ StateMove p.state (f p).state) :
    QueueMove A N s.admission.queue (u.mapTag tag x f).admission.queue := by
  rcases State.mapTag_cases same tag x f with ⟨-, kept⟩ | ⟨i, p, -, place, -, state, changed⟩
  · rw [kept, same]; exact .same rfl
  · rw [changed]; exact .mapPlacement same place (moves p state).1 (moves p state).2

theorem State.closes_of_admissionOpen {s : State} (opened : s.admissionOpen = true) :
    ∀ p ∈ s.admission.queue, p.state.closes = false := by
  simp only [State.admissionOpen, Bool.and_eq_true, Bool.not_eq_true', List.any_eq_false] at opened
  exact fun p member => by simpa using opened.1 p member

theorem PlacementTurn.queueMove {s t : State} (h : PlacementTurn s t) :
    QueueMove (s.judgeHead · = .announce) s.Grounded s.admission.queue t.admission.queue := by
  cases h with
  | queue q core => exact .same core
  | waits i p f place head named next => exact .mapPlacement rfl place named (.waits head next)
  | announces i p opened place head judged =>
    obtain ⟨before, after, queue, rfl⟩ := List.split_of_getElem? place
    have closed := State.closes_of_admissionOpen opened
    have served : s.serveOwed.admission = s.admission := s.serveOwed_frame .admission (by decide)
    have result (u : State) (same : u.admission = s.admission) :
        QueueMove (s.judgeHead · = .announce) s.Grounded s.admission.queue
          (u.mapPlacement before.length Placement.announce).admission.queue := by
      rw [State.mapPlacement_queue same queue, queue]
      exact .announces before after ⟨rfl, rfl⟩ head rfl judged (queue ▸ closed)
    unfold State.announceHead
    exact result _ served
  | retracts i p f place announced named next =>
    have same : (s.abandonTag p.tag).admission = s.admission :=
      s.abandonTag_frame p.tag .admission (by decide)
    exact .mapPlacement same place named (.retracts announced next)
  | sends c =>
    split
    · exact .mapTag (s := s) (x := .announcing) (f := fun p => { p with state := .tentative }) (by rfl) fun p state =>
        ⟨⟨rfl, rfl⟩, by rw [state]; exact .sends⟩
    · exact .same rfl
  | drops c _ _ holdoff =>
    exact
      .mapTag (s := s) (x := .announcing) (f := fun p => p.linkFail holdoff) (by rfl) fun p state =>
        ⟨⟨rfl, rfl⟩, .retracts (by rw [state]; rfl) (.inl rfl)⟩
  | clears i p f place held named next =>
    have same : (s.clearClaim p.tag).admission = s.admission :=
      s.clearClaim_frame p.tag .admission (by decide)
    exact .mapPlacement same place named (.clears held next)
  | places p room fresh defined queued =>
    refine .appends room (fun x member tagged => ?_) queued defined
    simp only [State.liveTag, List.any_eq_false, Bool.and_eq_true, beq_iff_eq] at fresh
    simpa [tagged] using fresh x member
  | failsAll clear =>
    have same : s.abandonAnnounced.admission = s.admission :=
      s.abandonAnnounced_frame .admission (by decide)
    have failed := QueueMove.failsAll (A := (s.judgeHead · = .announce)) (N := s.Grounded) clear
    unfold State.failAll
    rw [same]
    exact failed
  | _ => exact .same rfl

/-- The announced placement retracted, its claim abandoned first. -/
theorem QueueMove.retract {A N : Placement → Prop} {s : State} {i : Nat} {p : Placement}
    {f : Placement → Placement} (found : s.announcedIndex = some i)
    (place : s.admission.queue[i]? = some p) (named : (f p).tag = p.tag ∧ (f p).target = p.target)
    (next : (f p).state.waits = true ∨ (f p).state.terminal = true) :
    QueueMove A N s.admission.queue ((s.abandonTag p.tag).mapPlacement i f).admission.queue :=
  .mapPlacement (s.abandonTag_frame p.tag .admission (by decide)) place named
    (.retracts (State.announced_of_announcedIndex found place) next)

/-- A placement that yields does so as one retracted. -/
theorem State.yieldAnnounced_queueMove (A N : Placement → Prop) (s : State) :
    QueueMove A N s.admission.queue s.yieldAnnounced.admission.queue := by
  unfold State.yieldAnnounced
  split
  · exact .same rfl
  · next i found =>
    split
    · exact .same rfl
    · next p place =>
      exact .retract found place ⟨rfl, rfl⟩ (.inl rfl)

theorem State.failTaken_queueMove (A N : Placement → Prop) (s : State) :
    QueueMove A N s.admission.queue s.failTaken.admission.queue := by
  unfold State.failTaken
  split
  · exact .same rfl
  · next i found =>
    split
    · exact .same rfl
    · next p place =>
      have fails (r : FailReason) : QueueMove A N s.admission.queue
          ((s.abandonTag p.tag).mapPlacement i fun p => p.fail r).admission.queue :=
        .retract found place ⟨rfl, rfl⟩ (.inr rfl)
      split
      · exact fails _
      · split
        · exact fails _
        · exact .same rfl

/-- A move of the part moves the queue, or removes a record of it at the end of a transfer. -/
theorem Turn.queueMoves {s t : State} (h : Turn s t) :
    Relation.ReflTransGen (QueueMove (s.judgeHead · = .announce) s.Grounded) s.admission.queue t.admission.queue
      ∨ t.port.transfer = none ∧ t.admission.queue.Sublist s.admission.queue := by
  have stays {u : State} (same : u.admission.queue = s.admission.queue) :
      Relation.ReflTransGen (QueueMove (s.judgeHead · = .announce) s.Grounded) s.admission.queue u.admission.queue
        ∨ u.port.transfer = none ∧ u.admission.queue.Sublist s.admission.queue :=
    .inl (same ▸ .refl)
  cases h with
  | placing _ placed => exact .inl (.single placed.queueMove)
  | seats i x place firm =>
    have same : ((s.ownInsert x.target).seatClaim x.tag).admission = s.admission := by
      have seated : ((s.ownInsert x.target).seatClaim x.tag).admission
          = (s.ownInsert x.target).admission := State.seatClaim_frame _ _ .admission (by decide)
      have inserted : (s.ownInsert x.target).admission = s.admission :=
        s.ownInsert_frame _ .admission (by decide)
      exact seated.trans inserted
    exact .inl (.single (.mapPlacement same place ⟨rfl, rfl⟩ (firm ▸ .seats)))
  | settles i => exact .inr ⟨rfl, List.eraseIdx_sublist _ i⟩
  | loses u lost => exact .inl ((Relation.ReflTransGen.single (.same lost.queue_core)).tail (u.yieldAnnounced_queueMove _ _))
  | leaves c =>
    have same : (s.causeLeaves c).admission = s.admission := s.causeLeaves_frame c .admission (by decide)
    exact stays (by rw [same])
  | renames station =>
    have same : (s.nameConflict station).admission = s.admission :=
      s.nameConflict_frame station .admission (by decide)
    exact stays (by rw [same])
  | relaxes new _ better =>
    have same : ((s.writeStability new).stabilityCause new).admission = s.admission := by
      rw [State.stabilityCause, if_neg better]
      have left : ((s.writeStability new).causeLeaves .stability).admission
          = (s.writeStability new).admission := State.causeLeaves_frame _ _ .admission (by decide)
      exact left
    exact stays (by rw [same])
  | maps u mapped =>
    have same : u.admission = s.admission := mapped.frame .admission (by decide)
    exact .inl (.single (same ▸ u.failTaken_queueMove _ _))
  | _ => exact stays rfl

/-- A property of the queue that its moves and removals keep is kept by every move of the part. -/
theorem Turn.keeps_queue {P : List Placement → Prop} {s t : State}
    (each : ∀ q r, QueueMove (s.judgeHead · = .announce) s.Grounded q r → P q → P r)
    (erase : ∀ q r, r.Sublist q → P q → P r) (h : Turn s t) (p : P s.admission.queue) :
    P t.admission.queue := by
  rcases h.queueMoves with moves | ⟨-, part⟩
  · generalize t.admission.queue = r at moves ⊢
    induction moves with
    | refl => exact p
    | tail _ move ih => exact each _ _ move ih
  · exact erase _ _ part p

/-! ### Admission (R43, R53, R157) -/

/-- At most one placement of a queue closes admission. -/
def AtMostOneCloses (q : List Placement) : Prop := q.countP (fun p => p.state.closes) ≤ 1

/-- A placement of the queue is announced. -/
def SomeAnnounced (q : List Placement) : Prop := ∃ p ∈ q, p.state.announced = true

theorem PlacementState.closes_of_announced {x : PlacementState} (announced : x.announced = true) :
    x.closes = true := by
  cases x <;> first | rfl | cases announced

theorem PlacementState.not_closes {x : PlacementState} (next : x.waits = true ∨ x.terminal = true) :
    x.closes = false ∧ x.announced = false ∧ x ≠ .firm := by
  cases x <;> first | exact ⟨rfl, rfl, nofun⟩ | simp [PlacementState.waits, PlacementState.terminal] at next

/-- A move of a state closes admission only where it was closed, and makes no placement FIRM. -/
theorem StateMove.closes_le {x y : PlacementState} (h : StateMove x y) :
    (y.closes = true → x.closes = true) ∧ (y.announced = true → x.announced = true) ∧ y ≠ .firm := by
  cases h with
  | waits head next =>
    obtain ⟨closes, announced, firm⟩ := PlacementState.not_closes next
    exact ⟨by simp [closes], by simp [announced], firm⟩
  | retracts _ next =>
    obtain ⟨closes, announced, firm⟩ := PlacementState.not_closes next
    exact ⟨by simp [closes], by simp [announced], firm⟩
  | sends => exact ⟨fun _ => rfl, fun _ => rfl, nofun⟩
  | seats => exact ⟨nofun, nofun, nofun⟩
  | clears _ next =>
    obtain ⟨closes, announced, firm⟩ := PlacementState.not_closes (.inr next)
    exact ⟨by simp [closes], by simp [announced], firm⟩

theorem countP_closes_of_core {q r : List Placement}
    (core : r.map Placement.core = q.map Placement.core) :
    r.countP (fun p => p.state.closes) = q.countP (fun p => p.state.closes) := by
  have read (l : List Placement) : l.countP (fun p => p.state.closes)
      = (l.map Placement.core).countP fun x => x.2.2.closes := by
    simp [List.countP_map, Function.comp_def, Placement.core]
  rw [read, read, core]

/-- What a queue with the same cores holds. -/
theorem mem_of_core {q r : List Placement} (core : r.map Placement.core = q.map Placement.core)
    {p : Placement} (member : p ∈ r) : ∃ x ∈ q, x.core = p.core :=
  List.mem_map.mp (core ▸ List.mem_map_of_mem (f := Placement.core) member)

theorem AtMostOneCloses.change {before after : List Placement} {p x : Placement}
    (closes : x.state.closes = true → p.state.closes = true)
    (one : AtMostOneCloses (before ++ p :: after)) : AtMostOneCloses (before ++ x :: after) := by
  simp only [AtMostOneCloses, List.countP_append, List.countP_cons] at one ⊢
  cases hx : x.state.closes
  · simp only [Bool.false_eq_true, if_false]; omega
  · simpa [closes hx] using one

theorem SomeAnnounced.of_change {before after : List Placement} {p x : Placement}
    (kept : x.state.announced = true → p.state.announced = true)
    (announced : SomeAnnounced (before ++ x :: after)) : SomeAnnounced (before ++ p :: after) := by
  obtain ⟨y, member, holds⟩ := announced
  rcases List.mem_append.mp member with hy | hy
  · exact ⟨y, List.mem_append_left _ hy, holds⟩
  · rcases List.mem_cons.mp hy with rfl | hy
    · exact ⟨p, by simp, kept holds⟩
    · exact ⟨y, by simp [hy], holds⟩

theorem AtMostOneCloses.sublist {q r : List Placement} (part : r.Sublist q) (one : AtMostOneCloses q) :
    AtMostOneCloses r := part.countP_le.trans one

theorem QueueMove.keeps_atMostOneCloses {A N : Placement → Prop} {q r : List Placement} (h : QueueMove A N q r)
    (one : AtMostOneCloses q) : AtMostOneCloses r := by
  cases h with
  | same core =>
    unfold AtMostOneCloses
    rwa [countP_closes_of_core core]
  | @changes before after p x named move => exact one.change move.closes_le.1
  | @announces before after p x named head next judged closed =>
    have none_closes : (before ++ p :: after).countP (fun p => p.state.closes) = 0 :=
      List.countP_eq_zero.mpr fun y member => by simp [closed y member]
    simp only [AtMostOneCloses, List.countP_append, List.countP_cons] at none_closes ⊢
    split <;> omega
  | @appends _ p room fresh queued =>
    have stays : p.state.closes = false := by rw [queued]; rfl
    simpa [AtMostOneCloses, List.countP_append, stays] using one
  | failsAll clear =>
    refine le_of_eq_of_le (List.countP_eq_zero.mpr fun y member => ?_) (Nat.zero_le 1)
    obtain ⟨p, -, rfl⟩ := List.mem_map.mp member
    split
    · next terminal => simp [(PlacementState.not_closes (.inr terminal)).1]
    · exact Bool.false_ne_true

/-- A move leaves no placement announced where none was, but the head that it announces. -/
theorem QueueMove.someAnnounced {A N : Placement → Prop} {q r : List Placement} (h : QueueMove A N q r) (announced : SomeAnnounced r) :
    SomeAnnounced q ∨ ∃ p, A p := by
  obtain ⟨y, member, holds⟩ := announced
  cases h with
  | same core =>
    obtain ⟨x, hx, same⟩ := mem_of_core core member
    have state : x.state = y.state := congrArg (·.2.2) same
    exact .inl ⟨x, hx, by rw [state]; exact holds⟩
  | @changes before after p x named move =>
    exact .inl (SomeAnnounced.of_change move.closes_le.2.1 ⟨y, member, holds⟩)
  | @announces before after p x named head next judged closed => exact .inr ⟨p, judged⟩
  | @appends q p room fresh queued =>
    rcases List.mem_append.mp member with hy | hy
    · exact .inl ⟨y, hy, holds⟩
    · obtain rfl := List.mem_singleton.mp hy
      rw [queued] at holds
      cases holds
  | failsAll clear =>
    obtain ⟨p, -, rfl⟩ := List.mem_map.mp member
    split at holds
    · next terminal => simp [(PlacementState.not_closes (.inr terminal)).2.1] at holds
    · cases holds

/-- The platform is CALM, ARMSTOP released and view doubt off (R48, gates 2, 3 and 5). -/
def State.GatesHold (s : State) : Prop :=
  s.monitor.state = .calm ∧ s.stopClear = true ∧ s.notice.doubtDue = none

theorem State.admissionSound_iff {s : State} : s.AdmissionSound ↔
    AtMostOneCloses s.admission.queue
      ∧ (s.inRestart = false → SomeAnnounced s.admission.queue → s.GatesHold) := by
  constructor
  · exact fun ⟨one, gates⟩ => ⟨one, fun running ⟨p, member, announced⟩ => gates running p member announced⟩
  · exact fun ⟨one, gates⟩ => ⟨one, fun running p member announced => gates running ⟨p, member, announced⟩⟩

/-- A head that announces finds its gates holding. -/
theorem State.judgeHead_announce {s : State} {p : Placement} (judged : s.judgeHead p = .announce) :
    s.readSlot p.target = .vacant ∧ (s.wall p.target.wall).gap = false
      ∧ s.missingSupport p.target = none ∧ s.failedGate p = none := by
  unfold State.judgeHead at judged
  split at judged
  · cases judged
  · next vacant =>
    split at judged
    · cases judged
    · next gap =>
      split at judged
      · cases judged
      · next supports =>
        split at judged
        · cases judged
        · next gates => exact ⟨by simpa using vacant, by simpa using gap, supports, gates⟩

/-- The gates of a head of which none fails (R48). -/
theorem State.failedGate_eq_none {s : State} {p : Placement} : s.failedGate p = none ↔
    s.site.state = .online ∧ s.GatesHold ∧ s.rx.lag = false ∧ s.ownRoom = true
      ∧ s.blockingStation p.cells (s.precedenceOf p) = none ∧ p.holdoff = none
      ∧ s.urgentRoom = true := by
  unfold State.failedGate State.GatesHold
  constructor
  · intro gates
    repeat' split at gates
    all_goals simp_all
  · rintro ⟨online, ⟨calm, clear, doubt⟩, lag, room, free, holdoff, urgent⟩
    simp [online, calm, clear, doubt, lag, room, free, holdoff, urgent]


end Sys2Proof.Machine

namespace Sys2Proof.Machine

/-! ### Gates that stay (R53, R157) -/

/-- With at most one placement closing admission, one retracted leaves none that closes it. -/
theorem State.retract_closes {s : State} {i : Nat} {p : Placement} (one : AtMostOneCloses s.admission.queue)
    (place : s.admission.queue[i]? = some p) (announced : p.state.announced = true)
    {f : Placement → Placement} (next : (f p).state.waits = true ∨ (f p).state.terminal = true) :
    ∀ q ∈ ((s.abandonTag p.tag).mapPlacement i f).admission.queue, q.state.closes = false := by
  obtain ⟨before, after, queue, rfl⟩ := List.split_of_getElem? place
  have same : (s.abandonTag p.tag).admission = s.admission :=
    s.abandonTag_frame p.tag .admission (by decide)
  have closed := PlacementState.closes_of_announced announced
  unfold AtMostOneCloses at one
  simp only [queue, List.countP_append, List.countP_cons, closed, if_true] at one
  have others : before.countP (fun p => p.state.closes) = 0 ∧ after.countP (fun p => p.state.closes) = 0 := by
    omega
  rw [State.mapPlacement_queue same queue]
  intro q member
  rcases List.mem_append.mp member with hq | hq
  · simpa using List.countP_eq_zero.mp others.1 q hq
  · rcases List.mem_cons.mp hq with rfl | hq
    · exact (PlacementState.not_closes (x := (f p).state) next).1
    · simpa using List.countP_eq_zero.mp others.2 q hq

theorem State.not_announced_of_announcedIndex_none {s : State} (absent : s.announcedIndex = none) :
    ¬ SomeAnnounced s.admission.queue := by
  rintro ⟨p, member, announced⟩
  simp only [State.announcedIndex, List.findIdx?_eq_none_iff] at absent
  simp [absent p member] at announced

theorem not_someAnnounced_of_closes {q : List Placement} (closed : ∀ p ∈ q, p.state.closes = false) :
    ¬ SomeAnnounced q := by
  rintro ⟨p, member, announced⟩
  have := PlacementState.closes_of_announced announced
  simp [closed p member] at this

/-- After the announced placement has yielded, none is announced. -/
theorem State.yieldAnnounced_not_announced {s : State} (one : AtMostOneCloses s.admission.queue) :
    ¬ SomeAnnounced s.yieldAnnounced.admission.queue := by
  unfold State.yieldAnnounced
  split
  · next absent => exact State.not_announced_of_announcedIndex_none absent
  · next i found =>
    obtain ⟨lt, -, -⟩ := List.findIdx?_eq_some_iff_getElem.mp found
    split
    · next nowhere => simp [List.getElem?_eq_getElem lt] at nowhere
    · next p place =>
      exact not_someAnnounced_of_closes (State.retract_closes one place
        (State.announced_of_announcedIndex found place) (.inl rfl))

theorem StopControl.leaves_clear {t : StopControl} (c : Cause) (empty : t.causes.isEmpty = true) :
    t.leaves c = t := by
  unfold StopControl.leaves
  rw [if_neg (by simp [(CauseSet.isEmpty_iff _).mp empty c])]

theorem State.GatesHold.of_frame {l : List Block} {s t : State} (gates : s.GatesHold) (frame : Frame l s t)
    (untouched : Block.monitor ∉ l ∧ Block.stop ∉ l ∧ Block.notice ∉ l) : t.GatesHold := by
  have monitor : t.monitor = s.monitor := frame .monitor untouched.1
  have stop : t.stop = s.stop := frame .stop untouched.2.1
  have notice : t.notice = s.notice := frame .notice untouched.2.2
  unfold State.GatesHold State.stopClear
  rw [monitor, stop, notice]
  exact gates

/-- A move that does not take a gate away keeps all three. -/
theorem Turn.keeps_gates {s t : State} (h : Turn s t) (one : AtMostOneCloses s.admission.queue)
    (gates : s.GatesHold) : t.GatesHold ∨ ¬ SomeAnnounced t.admission.queue := by
  have ⟨calm, clear, doubt⟩ := gates
  cases h with
  | notice x kept => exact .inl ⟨calm, clear, kept doubt⟩
  | monitor x same => exact .inl ⟨same.trans calm, clear, doubt⟩
  | placing _ placed => exact .inl (gates.of_frame placed.frame (by decide))
  | seats i p => exact .inl (gates.of_frame (s.seat_frame _ _ i _) (by decide))
  | loses u lost =>
    have kept : AtMostOneCloses u.admission.queue := by
      unfold AtMostOneCloses
      rwa [countP_closes_of_core lost.queue_core]
    exact .inr (State.yieldAnnounced_not_announced kept)
  | leaves c =>
    have frame := s.causeLeaves_frame c
    have monitor : (s.causeLeaves c).monitor = s.monitor := frame .monitor (by decide)
    have notice : (s.causeLeaves c).notice = s.notice := frame .notice (by decide)
    have empty : s.stop.causes.isEmpty = true := (Bool.and_eq_true_iff.mp clear).1
    have stop : (s.causeLeaves c).stop = s.stop := by
      rw [State.causeLeaves_stop, StopControl.leaves_clear c empty]
    refine .inl ?_
    unfold State.GatesHold State.stopClear
    rw [monitor, stop, notice]
    exact gates
  | renames station present =>
    have empty : s.stop.causes.isEmpty = true := (Bool.and_eq_true_iff.mp clear).1
    have absent : s.stop.causes.claimConflict = false := (CauseSet.isEmpty_iff _).mp empty .claimConflict
    simp [absent] at present
  | relaxes new paused => exact absurd calm paused
  | releases empty => exact .inl ⟨calm, by simp [State.stopClear, StopControl.release, empty], doubt⟩
  | maps u mapped =>
    exact .inl ((gates.of_frame mapped.frame (by decide)).of_frame u.failTaken_frame (by decide))
  | _ => exact .inl ⟨calm, clear, doubt⟩

/-- A move announces a placement only with the gates holding. -/
theorem Turn.announced_gates {s t : State} (h : Turn s t) (announced : SomeAnnounced t.admission.queue) :
    SomeAnnounced s.admission.queue ∨ s.GatesHold := by
  refine h.keeps_queue (P := fun q => SomeAnnounced q → SomeAnnounced s.admission.queue ∨ s.GatesHold)
    (fun q r move before some => ?_)
    (fun _ _ part before ⟨p, member, holds⟩ => before ⟨p, part.subset member, holds⟩) .inl announced
  rcases move.someAnnounced some with some | ⟨p, judged⟩
  · exact before some
  · exact .inr (State.failedGate_eq_none.mp (State.judgeHead_announce judged).2.2.2).2.1

/-- No move begins or ends a restart. -/
theorem Turn.keeps_hold {s t : State} (h : Turn s t) : t.supply.hold = s.supply.hold := by
  have framed {l : List Block} {u : State} (frame : Frame l s u) (untouched : Block.supply ∉ l) :
      u.supply.hold = s.supply.hold := by
    have same : u.supply = s.supply := frame .supply untouched
    rw [same]
  cases h with
  | placing _ placed => exact framed placed.frame (by decide)
  | seats i p => exact framed (s.seat_frame _ _ i _) (by decide)
  | loses u lost =>
    exact framed ((lost.frame.mono (m := .monitor :: .notice :: cascade) rfl).trans
      (u.yieldAnnounced_frame.mono rfl)) (by decide)
  | leaves c => exact framed (s.causeLeaves_frame c) (by decide)
  | renames station => exact framed (s.nameConflict_frame station) (by decide)
  | relaxes new =>
    exact framed (((s.writeStability_frame new).mono rfl).trans
      (((s.writeStability new).stabilityCause_cascade new).mono (m := .monitor :: cascade) rfl))
      (by decide)
  | maps u mapped =>
    exact framed ((mapped.frame.mono (m := .map :: .walls :: cascade) rfl).trans
      (u.failTaken_frame.mono rfl)) (by decide)
  | _ => rfl

theorem Turn.keeps_admissionSound {s t : State} (h : Turn s t) (sound : s.AdmissionSound) :
    t.AdmissionSound := by
  rw [State.admissionSound_iff] at sound ⊢
  obtain ⟨one, gates⟩ := sound
  refine ⟨h.keeps_queue (P := AtMostOneCloses) (fun _ _ move => move.keeps_atMostOneCloses)
    (fun _ _ => AtMostOneCloses.sublist) one,
    fun running announced => ?_⟩
  have was_running : s.inRestart = false := by
    unfold State.inRestart at running ⊢
    rwa [h.keeps_hold] at running
  have held : s.GatesHold := (h.announced_gates announced).elim (gates was_running) id
  exact (h.keeps_gates one held).resolve_right (not_not_intro announced)

theorem State.suspendMotion_core (s : State) :
    s.suspendMotion.admission.queue.map Placement.core = s.admission.queue.map Placement.core := by
  simp [State.suspendMotion, List.map_map, Function.comp_def, Placement.core]

theorem State.beginRestart_core (s : State) :
    s.beginRestart.admission.queue.map Placement.core = s.admission.queue.map Placement.core := by
  have kept : s.cutWalk.admission = s.admission := s.cutWalk_frame .admission (by decide)
  rw [← kept]
  exact State.suspendMotion_core _

/-- A claim and its placement made FIRM. -/
def State.makeFirm (s : State) (c : OwnClaim) : State :=
  ((s.mapClaim c.number OwnClaim.firm).requestAnnounce c.number).mapTag c.tag .tentative
    fun p => p.firm s.now

/-- The decision leaves the queue, or makes a TENTATIVE placement of the claim's tag FIRM. -/
theorem State.makeFirm_queue (s : State) (c : OwnClaim) :
    (s.makeFirm c).admission.queue = s.admission.queue
      ∨ ∃ before p x after, s.admission.queue = before ++ p :: after
        ∧ (s.makeFirm c).admission.queue = before ++ x :: after ∧ p.tag = c.tag
        ∧ p.state = .tentative ∧ x.tag = p.tag ∧ x.target = p.target ∧ x.state = .firm := by
  have same : ((s.mapClaim c.number OwnClaim.firm).requestAnnounce c.number).admission = s.admission :=
    State.requestAnnounce_frame _ _ .admission (by decide)
  rcases State.mapTag_cases same c.tag .tentative (fun p => p.firm s.now) with
    ⟨-, kept⟩ | ⟨i, p, -, place, tag, state, changed⟩
  · exact .inl (by rw [State.makeFirm, kept, same])
  · obtain ⟨before, after, queue, rfl⟩ := List.split_of_getElem? place
    refine .inr ⟨before, p, p.changedTo (p.firm s.now), after, queue, ?_, tag, state, rfl, rfl, rfl⟩
    rw [State.makeFirm, changed, State.mapPlacement_queue same queue]

theorem Atom.keeps_admissionSound {c : Instr} {s t : State} (h : Atom c s t) (sound : s.AdmissionSound) :
    t.AdmissionSound := by
  have ⟨one, gates⟩ := State.admissionSound_iff.mp sound
  have empty {u : State} (none_queued : u.admission.queue = []) : u.AdmissionSound := by
    rw [State.admissionSound_iff, none_queued]
    exact ⟨Nat.zero_le 1, fun _ ⟨_, member, _⟩ => absurd member List.not_mem_nil⟩
  cases h with
  | firms own =>
    have frame : Frame [.admission, .claims, .tx] s (s.makeFirm own) := s.firm_frame _ _ _ _
    have supply : (s.makeFirm own).supply = s.supply := frame .supply (by decide)
    show (s.makeFirm own).AdmissionSound
    rw [State.admissionSound_iff, State.inRestart, supply]
    rcases s.makeFirm_queue own with kept | ⟨before, p, x, after, queue, changed, -, was, -, -, firm⟩
    · rw [kept]
      exact ⟨one, fun running announced => (gates running announced).of_frame frame (by decide)⟩
    · rw [queue] at one gates
      rw [changed]
      refine ⟨one.change fun _ => by rw [was]; rfl, fun running announced => ?_⟩
      exact (gates running (announced.of_change fun _ => by rw [was]; rfl)).of_frame frame (by decide)
  | restarts cause hold =>
    refine ⟨?_, nofun⟩
    exact (countP_closes_of_core s.beginRestart_core).trans_le one
  | off hold => exact empty rfl
  | cold i => exact empty rfl
  | warms i => exact empty rfl
  | held cause hold => exact ⟨one, nofun⟩
  | _ => exact sound

/-- Settles O57: a gate lost takes the announced placement with it, and a head announces only with all
gates holding. -/
theorem admissionStaysClosed : Obligations.AdmissionStaysClosed := fun _ _ sound h =>
  step_keeps_of_atoms (P := State.AdmissionSound) (fun _ _ _ => id)
    (fun _ _ => Turn.keeps_admissionSound) (fun _ _ _ => Atom.keeps_admissionSound) h sound

end Sys2Proof.Machine

namespace Sys2Proof.Machine

/-! ### FIRM placements (R56) -/

/-- Every FIRM placement of `r` is a FIRM placement of `q`. -/
def FirmFrom (q r : List Placement) : Prop :=
  ∀ p ∈ r, p.state = .firm → ∃ x ∈ q, x.tag = p.tag ∧ x.target = p.target ∧ x.state = .firm

theorem FirmFrom.refl (q : List Placement) : FirmFrom q q :=
  fun p member firm => ⟨p, member, rfl, rfl, firm⟩

theorem FirmFrom.trans {q r l : List Placement} (h : FirmFrom q r) (k : FirmFrom r l) : FirmFrom q l := by
  intro p member firm
  obtain ⟨x, hx, tag, target, state⟩ := k p member firm
  obtain ⟨y, hy, tag', target', state'⟩ := h x hx state
  exact ⟨y, hy, tag'.trans tag, target'.trans target, state'⟩

theorem FirmFrom.of_core {q r : List Placement} (core : r.map Placement.core = q.map Placement.core) :
    FirmFrom q r := by
  intro p member firm
  obtain ⟨x, hx, same⟩ := mem_of_core core member
  simp only [Placement.core, Prod.mk.injEq] at same
  exact ⟨x, hx, same.1, same.2.1, same.2.2.trans firm⟩

theorem FirmFrom.change {before after : List Placement} {p x : Placement} (made : x.state ≠ .firm) :
    FirmFrom (before ++ p :: after) (before ++ x :: after) := by
  intro y member firm
  refine ⟨y, ?_, rfl, rfl, firm⟩
  have other : y ≠ x := fun same => made (same ▸ firm)
  simpa [other] using Or.imp_right (Or.inr (a := y = p)) (by simpa [other] using member)

/-- No move makes a placement FIRM. -/
theorem QueueMove.firmFrom {A N : Placement → Prop} {q r : List Placement} (h : QueueMove A N q r) :
    FirmFrom q r := by
  cases h with
  | same core => exact .of_core core
  | @changes before after p x named move => exact .change move.closes_le.2.2
  | @announces before after p x named head next => exact .change (by simp [next])
  | @appends q p room fresh queued =>
    intro y member firm
    rcases List.mem_append.mp member with hy | hy
    · exact ⟨y, hy, rfl, rfl, firm⟩
    · obtain rfl := List.mem_singleton.mp hy
      simp [queued] at firm
  | failsAll clear =>
    intro y member firm
    obtain ⟨p, hp, rfl⟩ := List.mem_map.mp member
    split at firm
    · next terminal => simp [firm, PlacementState.terminal] at terminal
    · cases firm

theorem Turn.firmFrom {s t : State} (h : Turn s t) : FirmFrom s.admission.queue t.admission.queue :=
  h.keeps_queue (P := FirmFrom s.admission.queue) (fun _ _ move from' => from'.trans move.firmFrom)
    (fun _ _ part from' => from'.trans fun p member firm => ⟨p, part.subset member, rfl, rfl, firm⟩) (.refl _)

theorem Turns.firmFrom {s t : State} (h : Turns s t) : FirmFrom s.admission.queue t.admission.queue :=
  h.keeps (P := fun t => FirmFrom s.admission.queue t.admission.queue)
    (fun _ _ turn before => before.trans turn.firmFrom) (.refl _)

/-- The commands that can take a FIRM decision. -/
def TakesDecision (c : Instr) : Prop := c = .settleExpiry ∨ c = .firmDecision ∨ c = .noticeTake

theorem Atom.firmFrom {c : Instr} {s t : State} (h : Atom c s t) (other : ¬ TakesDecision c) :
    FirmFrom s.admission.queue t.admission.queue := by
  have empty {u : State} (none_queued : u.admission.queue = []) :
      FirmFrom s.admission.queue u.admission.queue := by
    rw [none_queued]
    exact fun _ member => absurd member List.not_mem_nil
  cases h with
  | firms own decision => exact absurd decision other
  | restarts cause hold => exact .of_core s.beginRestart_core
  | off hold => exact empty rfl
  | cold i => exact empty rfl
  | warms i => exact empty rfl
  | _ => exact .refl _

/-- A FIRM decision of a claim is taken first, if one is, and moves follow. -/
theorem exec_of_decides {c : Instr} {s t : State} (decides : TakesDecision c) (h : exec c s = .next t) :
    Turns s t ∨ ∃ own, s.Decidable own ∧ s.decisionYields own = false ∧ Turns (s.makeFirm own) t := by
  have decided (own : OwnClaim) (due : s.Decidable own) :
      Turns s (s.decide own) ∨ ∃ x, s.Decidable x ∧ s.decisionYields x = false
        ∧ Turns (s.makeFirm x) (s.decide own) :=
    (s.decide_cases own).imp_right fun follow => ⟨own, due, follow⟩
  have taken : Turns s s.takeDecision ∨ ∃ own, s.Decidable own ∧ s.decisionYields own = false
      ∧ Turns (s.makeFirm own) s.takeDecision := by
    unfold State.takeDecision
    split
    · exact .inl (.refl s)
    · next found => exact decided _ (State.decidable_of_dueClaim found)
  rcases decides with rfl | rfl | rfl
  · obtain rfl := Host.Outcome.next.inj h
    split
    · exact .inl (.refl s)
    · next own found =>
      obtain ⟨due, settles⟩ := State.decidable_of_settledClaim found
      unfold State.settleClaim
      split
      · exact decided own due
      · exact .inl (.placing (.defers s own _ due.1 settles))
  · exact Host.Outcome.next.inj h ▸ taken
  · obtain rfl := Host.Outcome.next.inj h
    split
    · exact .inl (.refl s)
    · next f _ =>
      have processed := s.takeDecision.processFrame_turns f
      exact taken.imp (·.trans processed) fun ⟨own, due, decided, follow⟩ =>
        ⟨own, due, decided, follow.trans processed⟩

/-- What a decision that makes a claim FIRM has found (R87). -/
theorem State.decisionYields_eq_false {s : State} {own : OwnClaim} :
    s.decisionYields own = false ↔ s.GatesHold
      ∧ ∀ e ∈ s.claims.peers, e.blocks own.cells own.precedence = false := by
  have unblocked : (s.blockingStation own.cells own.precedence).isSome = false ↔
      ∀ e ∈ s.claims.peers, e.blocks own.cells own.precedence = false := by
    rw [Option.isSome_eq_false_iff, Option.isNone_iff_eq_none]
    simp [State.blockingStation, List.filter_eq_nil_iff]
  simp only [State.decisionYields, Bool.or_eq_false_iff, unblocked, State.GatesHold]
  cases s.notice.doubtDue <;> simp [and_assoc, and_comm, and_left_comm]

/-- A peer entry that does not block a claim and shares a cell with it is TENTATIVE and of no smaller
precedence. -/
theorem PeerEntry.of_not_blocks {e : PeerEntry} {cells : List Nat} {precedence : Nat}
    (free : e.blocks cells precedence = false) (shares : sharesCell cells e.cells = true) :
    e.state = .tentative ∧ precedence ≤ e.precedence := by
  simpa [PeerEntry.blocks, shares] using free

/-- Settles O50: only the decision makes a placement FIRM, and it is taken first. -/
theorem firmOnlyByTheDecision : Obligations.FirmOnlyByTheDecision := by
  intro c s t ready h p member firm
  by_cases decides : TakesDecision c
  · rcases exec_of_decides decides h with turns | ⟨own, due, decided, follow⟩
    · exact .inl (turns.firmFrom p member firm)
    · obtain ⟨x, hx, tag, target, state⟩ := follow.firmFrom p member firm
      rcases s.makeFirm_queue own with kept | ⟨before, q, y, after, queue, changed, tagged, was, same_tag,
        same_target, -⟩
      · exact .inl ⟨x, kept ▸ hx, tag, target, state⟩
      · by_cases same : x = y
        · subst same
          have hq : q ∈ s.admission.queue := by simp [queue]
          obtain ⟨-, vacant, -, supports⟩ := ready q hq (by rw [was]; rfl)
          obtain ⟨⟨calm, clear, doubt⟩, free⟩ := State.decisionYields_eq_false.mp decided
          obtain ⟨held, tentative, -⟩ := due
          refine .inr ⟨decides, calm, clear, doubt, ⟨q, hq, same_tag.symm.trans tag,
            same_target.symm.trans target, was, vacant, supports⟩,
            own, held, tagged.symm.trans (same_tag.symm.trans tag), tentative, ?_⟩
          exact fun e entry => PeerEntry.of_not_blocks (free e entry)
        · refine .inl ⟨x, ?_, tag, target, state⟩
          rw [changed] at hx
          rw [queue]
          simpa [same] using Or.imp_right (Or.inr (a := x = q)) (by simpa [same] using hx)
  · refine .inl (exec_keeps (P := fun u => FirmFrom s.admission.queue u.admission.queue)
      (fun _ _ turn before => before.trans turn.firmFrom)
      (fun _ _ atom before => before.trans (atom.firmFrom decides)) h (.refl _) p member firm)

end Sys2Proof.Machine

namespace Sys2Proof.Machine

/-! ### Slots that stay ready (R10, R55) -/

/-- A slot's target is OPEN, its wall without gap flag and its supports ready. -/
def State.SlotReady (s : State) (slot : Slot) : Prop :=
  s.readSlot slot = .vacant ∧ (s.wall slot.wall).gap = false ∧ s.missingSupport slot = none

/-- No support slot is missing where every slot that was ready is, the wall's definition standing. -/
theorem State.missingSupport_none_of {s t : State} {slot : Slot} (found : s.missingSupport slot = none)
    (definition : (t.wall slot.wall).definition = (s.wall slot.wall).definition)
    (ready : ∀ k, (s.readSlot k).ready = true → (t.readSlot k).ready = true) :
    t.missingSupport slot = none := by
  unfold State.missingSupport at found ⊢
  rw [definition]
  cases hd : (s.wall slot.wall).definition with
  | none => rfl
  | some d =>
    rw [hd] at found
    simp only [List.find?_eq_none, Bool.not_eq_true', Bool.not_eq_false] at found ⊢
    exact fun k member => ready k (by simpa using found k member)

/-- What a slot reads as hangs on its wall's solid height and its record's state. -/
theorem State.readSlot_congr {s t : State} {slot : Slot}
    (height : (t.wall slot.wall).solidHeight = (s.wall slot.wall).solidHeight)
    (record : (t.recordAt slot).map SlotRecord.state = (s.recordAt slot).map SlotRecord.state) :
    t.readSlot slot = s.readSlot slot := by
  unfold State.readSlot
  rw [height]
  cases ht : t.recordAt slot <;> cases hs : s.recordAt slot <;> simp_all

theorem State.readSlot_ready {s : State} {k : Slot} : (s.readSlot k).ready = true ↔
    k.course < (s.wall k.wall).solidHeight ∨ ∃ r, s.recordAt k = some r ∧ r.isSet = true := by
  unfold State.readSlot
  split
  · next below => simp [below, SlotState.ready]
  · next above =>
    cases s.recordAt k with
    | none => simp [above, SlotState.ready]
    | some r => cases hr : r.state <;> simp [above, SlotState.ready, SlotRecord.isSet, hr]

theorem findRecord_core {l m : List SlotRecord} (same : l.map SlotRecord.core = m.map SlotRecord.core)
    (k : Slot) : (findRecord l k).map SlotRecord.core = (findRecord m k).map SlotRecord.core := by
  have read (l : List SlotRecord) :
      (findRecord l k).map SlotRecord.core = (l.map SlotRecord.core).find? fun x => x.1 == k := by
    rw [List.find?_map]
    rfl
  rw [read, read, same]

theorem State.SlotReady.of_same {s t : State} {slot : Slot} (ready : s.SlotReady slot)
    (walls : ∀ w, (t.wall w).definition = (s.wall w).definition
      ∧ (t.wall w).solidHeight = (s.wall w).solidHeight ∧ ((t.wall w).gap = true → (s.wall w).gap = true))
    (records : t.map.records.map SlotRecord.core = s.map.records.map SlotRecord.core) :
    t.SlotReady slot := by
  obtain ⟨vacant, gap, supports⟩ := ready
  have reads (k : Slot) : t.readSlot k = s.readSlot k := by
    refine State.readSlot_congr (walls k.wall).2.1 ?_
    have core := congrArg (Option.map fun x => x.2.1) (findRecord_core records k)
    rw [Option.map_map, Option.map_map] at core
    exact core
  refine ⟨(reads slot).trans vacant, ?_, State.missingSupport_none_of supports (walls slot.wall).1
    fun k => by rw [reads]; exact id⟩
  by_contra set
  simp [(walls slot.wall).2.2 (by simpa using set)] at gap

theorem State.SlotReady.of_frame {l : List Block} {s t : State} {slot : Slot} (ready : s.SlotReady slot)
    (frame : Frame l s t) (untouched : Block.map ∉ l ∧ Block.walls ∉ l) : t.SlotReady slot := by
  have map : t.map = s.map := frame .map untouched.1
  have walls : t.walls = s.walls := frame .walls untouched.2
  exact ready.of_same (fun w => by simp [State.wall, walls]) (by rw [map])

/-! ### Changes of the map keep what is ready -/

theorem State.wall_absent {s : State} {w : Nat} (outside : ¬ w < s.walls.length) : s.wall w = .absent := by
  unfold State.wall
  rw [List.getD_eq_getElem?_getD, List.getElem?_eq_none (Nat.le_of_not_lt outside)]
  rfl

theorem State.lt_of_defined {s : State} {w : Nat} (defined : (s.wall w).definition.isSome = true) :
    w < s.walls.length := by
  by_contra outside
  rw [State.wall_absent outside] at defined
  cases defined

theorem State.recordAt_putRecord (s : State) (r : SlotRecord) (k : Slot) :
    (s.putRecord r).recordAt k = if k = r.slot then some r else s.recordAt k := by
  split
  · next same => subst same; exact findRecord_insertRecord_self r _
  · next other => exact findRecord_insertRecord_other other _

theorem State.recordAt_raiseHeight (s : State) (w h : Nat) (k : Slot) :
    (s.raiseHeight w h).recordAt k = if k.wall = w ∧ k.course < h then none else s.recordAt k := by
  have found : (s.raiseHeight w h).recordAt k
      = s.map.records.find? fun r => !r.under w h && r.slot == k := by
    simp [State.recordAt, findRecord, State.raiseHeight, List.find?_filter]
    rfl
  have under (r : SlotRecord) (same : r.slot = k) : r.under w h = true ↔ k.wall = w ∧ k.course < h := by
    simp [SlotRecord.under, same]
  rw [found]
  split
  · next below =>
    refine List.find?_eq_none.mpr fun r _ => ?_
    by_cases same : r.slot = k
    · simp [(under r same).mpr below]
    · simp [same]
  · next stays =>
    unfold State.recordAt findRecord
    congr 1
    funext r
    by_cases same : r.slot = k
    · have : r.under w h = false := by simpa using mt (under r same).mp stays
      simp [this]
    · simp [same]

theorem MapStep.keeps_definition {s u : State} (h : MapStep s u) (w : Nat) :
    (u.wall w).definition = (s.wall w).definition := by
  cases h with
  | put r => rfl
  | raise v h =>
    rw [State.wall_raiseHeight]
    split <;> rfl
  | gap v =>
    rw [State.wall_mapWall]
    split <;> rfl

/-- A slot that is ready stays ready through every change of the map. -/
theorem MapStep.keeps_ready {s u : State} (h : MapStep s u) {k : Slot}
    (ready : (s.readSlot k).ready = true) : (u.readSlot k).ready = true := by
  rw [State.readSlot_ready] at ready ⊢
  cases h with
  | put r _ _ old =>
    refine ready.imp_right fun ⟨x, found, set⟩ => ?_
    rw [State.recordAt_putRecord]
    split
    · next same => subst same; exact ⟨r, rfl, (old x found).2 set⟩
    · exact ⟨x, found, set⟩
  | raise w h defined higher =>
    have range := State.lt_of_defined defined
    rw [State.recordAt_raiseHeight, State.wall_raiseHeight]
    by_cases below : k.wall = w ∧ k.course < h
    · obtain ⟨rfl, low⟩ := below
      simp [range, low]
    · rw [if_neg below]
      refine ready.imp_left fun retired => ?_
      split
      · next same =>
        obtain ⟨rfl, -⟩ := same
        exact retired.trans higher
      · exact retired
  | gap w =>
    rw [State.wall_mapWall]
    refine ready.imp_left fun retired => ?_
    split <;> exact retired

/-! ### Announced placements (R55, R56) -/

theorem AtMostOneCloses.others {before after : List Placement} {p : Placement}
    (one : AtMostOneCloses (before ++ p :: after)) (closed : p.state.closes = true) :
    ∀ x, x ∈ before ∨ x ∈ after → x.state.closes = false := by
  simp only [AtMostOneCloses, List.countP_append, List.countP_cons, closed, if_true] at one
  rintro x (member | member)
  · simpa using List.countP_eq_zero.mp (show before.countP (fun p => p.state.closes) = 0 by omega) x member
  · simpa using List.countP_eq_zero.mp (show after.countP (fun p => p.state.closes) = 0 by omega) x member

/-- An announced placement is the only one. -/
theorem AtMostOneCloses.eq_of_announced {q : List Placement} {i : Nat} {p x : Placement}
    (one : AtMostOneCloses q) (place : q[i]? = some p) (closed : p.state.closes = true) (member : x ∈ q)
    (announced : x.state.announced = true) : x = p := by
  obtain ⟨before, after, rfl, -⟩ := List.split_of_getElem? place
  have others := one.others closed
  have unclosed := PlacementState.closes_of_announced announced
  by_contra other
  have : x ∈ before ∨ x ∈ after := by simpa [other] using member
  simp [others x this] at unclosed

/-- After the check of R55 an announced placement has its target OPEN and no gap flag on its wall. -/
theorem State.failTaken_announced {u : State} (one : AtMostOneCloses u.admission.queue) {x : Placement}
    (member : x ∈ u.failTaken.admission.queue) (announced : x.state.announced = true) :
    x ∈ u.admission.queue ∧ u.readSlot x.target = .vacant ∧ (u.wall x.target.wall).gap = false := by
  unfold State.failTaken at member
  cases found : u.announcedIndex with
  | none =>
    rw [found] at member
    exact absurd ⟨x, member, announced⟩ (State.not_announced_of_announcedIndex_none found)
  | some i =>
    obtain ⟨lt, -, -⟩ := List.findIdx?_eq_some_iff_getElem.mp found
    have place := List.getElem?_eq_getElem lt
    have held := State.announced_of_announcedIndex found place
    have retracted (r : FailReason) := State.retract_closes (f := fun p => p.fail r) one place held (.inr rfl)
    simp only [found, place] at member
    split at member
    · exact absurd ⟨x, member, announced⟩ (not_someAnnounced_of_closes (retracted _))
    · next vacant =>
      split at member
      · exact absurd ⟨x, member, announced⟩ (not_someAnnounced_of_closes (retracted _))
      · next gap =>
        obtain rfl := one.eq_of_announced place (PlacementState.closes_of_announced held) member announced
        exact ⟨member, by simpa using vacant, by simpa using gap⟩

theorem mem_of_change {α : Type} {before after : List α} {p x y : α} (member : y ∈ before ++ x :: after) :
    y = x ∨ y ∈ before ++ p :: after := by
  simp only [List.mem_append, List.mem_cons] at member ⊢
  tauto

/-- An announced placement was announced before the move, or is the head that announces. -/
theorem QueueMove.announced_origin {A N : Placement → Prop} {q r : List Placement} (h : QueueMove A N q r)
    {y : Placement} (member : y ∈ r) (announced : y.state.announced = true) :
    ∃ p ∈ q, p.target = y.target ∧ (p.state.announced = true ∨ A p) := by
  cases h with
  | same core =>
    obtain ⟨x, hx, same⟩ := mem_of_core core member
    simp only [Placement.core, Prod.mk.injEq] at same
    exact ⟨x, hx, same.2.1, .inl (same.2.2 ▸ announced)⟩
  | @changes before after p x named move =>
    rcases mem_of_change (p := p) member with rfl | hy
    · exact ⟨p, by simp, named.2.symm, .inl (move.closes_le.2.1 announced)⟩
    · exact ⟨y, hy, rfl, .inl announced⟩
  | @announces before after p x named head next judged =>
    rcases mem_of_change (p := p) member with rfl | hy
    · exact ⟨p, by simp, named.2.symm, .inr judged⟩
    · exact ⟨y, hy, rfl, .inl announced⟩
  | @appends q p room fresh queued =>
    rcases List.mem_append.mp member with hy | hy
    · exact ⟨y, hy, rfl, .inl announced⟩
    · obtain rfl := List.mem_singleton.mp hy
      rw [queued] at announced
      cases announced
  | failsAll clear =>
    obtain ⟨p, -, rfl⟩ := List.mem_map.mp member
    split at announced
    · next terminal => simp [(PlacementState.not_closes (.inr terminal)).2.1] at announced
    · cases announced

theorem State.announcedReady_iff {s : State} : s.AnnouncedReady ↔
    ∀ p ∈ s.admission.queue, p.state.announced = true → s.site.state = .online ∧ s.SlotReady p.target :=
  Iff.rfl

/-- A head that announces is ONLINE and ready. -/
theorem State.ready_of_judged {s : State} {p : Placement} (judged : s.judgeHead p = .announce) :
    s.site.state = .online ∧ s.SlotReady p.target := by
  obtain ⟨vacant, gap, supports, gates⟩ := State.judgeHead_announce judged
  exact ⟨(State.failedGate_eq_none.mp gates).1, vacant, gap, supports⟩

theorem State.seat_queue (s : State) {before after : List Placement} {p : Placement}
    (queue : s.admission.queue = before ++ p :: after) :
    (((s.ownInsert p.target).seatClaim p.tag).mapPlacement before.length Placement.seat).admission.queue
      = before ++ p.changedTo p.seat :: after := by
  have seated : ((s.ownInsert p.target).seatClaim p.tag).admission = (s.ownInsert p.target).admission :=
    State.seatClaim_frame _ _ .admission (by decide)
  have inserted : (s.ownInsert p.target).admission = s.admission := s.ownInsert_frame _ .admission (by decide)
  exact State.mapPlacement_queue (seated.trans inserted) queue _

/-- After a move an announced placement has a target that was ready before it, on an ONLINE station. -/
theorem Turn.announced_ready {s t : State} (h : Turn s t) (ready : s.AnnouncedReady) {y : Placement}
    (member : y ∈ t.admission.queue) (announced : y.state.announced = true) :
    s.site.state = .online ∧ s.SlotReady y.target := by
  refine h.keeps_queue
    (P := fun q => ∀ y ∈ q, y.state.announced = true → s.site.state = .online ∧ s.SlotReady y.target)
    (fun q r move before y member announced => ?_) (fun _ _ part before y member => before y (part.subset member))
    ready y member announced
  obtain ⟨p, hp, target, held | judged⟩ := move.announced_origin member announced
  · exact target ▸ before p hp held
  · exact target ▸ State.ready_of_judged judged

theorem Turn.keeps_siteState {s t : State} (h : Turn s t) : t.site.state = s.site.state :=
  h.platformMove.1

theorem Turn.keeps_announcedReady {s t : State} (h : Turn s t) (one : AtMostOneCloses s.admission.queue)
    (ready : s.AnnouncedReady) : t.AnnouncedReady := by
  rw [State.announcedReady_iff]
  intro y member announced
  obtain ⟨online, was⟩ := h.announced_ready ready member announced
  refine ⟨h.keeps_siteState.trans online, ?_⟩
  cases h with
  | walls x same => exact was.of_same same rfl
  | records x same => exact was.of_same (fun _ => ⟨rfl, rfl, id⟩) same
  | placing _ placed => exact was.of_frame placed.frame (by decide)
  | seats i p place firm =>
    obtain ⟨before, after, queue, rfl⟩ := List.split_of_getElem? place
    rw [s.seat_queue queue] at member
    rw [queue] at one
    have unclosed := PlacementState.closes_of_announced announced
    rcases List.mem_append.mp member with hy | hy
    · simp [one.others (by rw [firm]; rfl) y (.inl hy)] at unclosed
    · rcases List.mem_cons.mp hy with rfl | hy
      · cases unclosed
      · simp [one.others (by rw [firm]; rfl) y (.inr hy)] at unclosed
  | loses u lost => exact (was.of_frame lost.frame (by decide)).of_frame u.yieldAnnounced_frame (by decide)
  | leaves c => exact was.of_frame (s.causeLeaves_frame c) (by decide)
  | renames station => exact was.of_frame (s.nameConflict_frame station) (by decide)
  | relaxes new =>
    exact was.of_frame (((s.writeStability_frame new).mono rfl).trans
      (((s.writeStability new).stabilityCause_cascade new).mono (m := .monitor :: cascade) rfl))
      (by decide)
  | maps u mapped =>
    have same : u.admission = s.admission := mapped.frame .admission (by decide)
    obtain ⟨-, vacant, gap⟩ := State.failTaken_announced (same.symm ▸ one) member announced
    have supports : u.missingSupport y.target = none :=
      State.missingSupport_none_of was.2.2 (mapped.keeps_definition _) fun _ => mapped.keeps_ready
    have now : u.SlotReady y.target := ⟨vacant, gap, supports⟩
    exact now.of_frame u.failTaken_frame (by decide)
  | _ => exact was

/-- A site state entered by the table leaves ONLINE only for LEAVING. -/
theorem SiteMove.leaving_of_online {c : Instr} {x : SiteState} (h : SiteMove c .online x) :
    x = .leaving := by
  cases h
  rfl

theorem Atom.keeps_announcedReady {c : Instr} {s t : State} (h : Atom c s t) (ready : s.AnnouncedReady) :
    t.AnnouncedReady := by
  have empty {u : State} (none_queued : u.admission.queue = []) : u.AnnouncedReady := by
    intro p member
    rw [none_queued] at member
    exact absurd member List.not_mem_nil
  cases h with
  | firms own =>
    have frame : Frame [.admission, .claims, .tx] s (s.makeFirm own) := s.firm_frame _ _ _ _
    have site : (s.makeFirm own).site = s.site := frame .site (by decide)
    show (s.makeFirm own).AnnouncedReady
    rw [State.announcedReady_iff, site]
    intro y member announced
    have was : y ∈ s.admission.queue := by
      rcases s.makeFirm_queue own with kept | ⟨before, p, x, after, queue, changed, -, -, -, -, firm⟩
      · exact kept ▸ member
      · rw [changed] at member
        rw [queue]
        refine (mem_of_change member).resolve_left ?_
        rintro rfl
        rw [firm] at announced
        cases announced
    exact (ready y was announced).imp_right fun k => State.SlotReady.of_frame k frame (by decide)
  | defines f d _ configured =>
    intro p member announced
    have online := (ready p member announced).1
    rw [configured] at online
    cases online
  | enters x move finished =>
    intro p member announced
    obtain ⟨online, -⟩ := ready p member announced
    have leaving : x = .leaving := SiteMove.leaving_of_online (online ▸ move)
    have terminal := finished leaving p member
    simp [(PlacementState.not_closes (.inr terminal)).2.1] at announced
  | restarts cause hold =>
    intro y member announced
    obtain ⟨p, hp, same⟩ := mem_of_core s.beginRestart_core member
    simp only [Placement.core, Prod.mk.injEq] at same
    obtain ⟨online, was⟩ := ready p hp (same.2.2 ▸ announced)
    have site : s.beginRestart.site = s.site := s.beginRestart_frame .site (by decide)
    have now : s.beginRestart.SlotReady p.target := State.SlotReady.of_frame was s.beginRestart_frame (by decide)
    exact ⟨(congrArg SiteControl.state site).trans online, same.2.1 ▸ now⟩
  | off hold => exact empty rfl
  | cold i => exact empty rfl
  | warms i => exact empty rfl
  | _ => exact ready

/-- Settles O58: what is ready stays so, but for a target taken or a gap flag set, which fail the
placement. -/
theorem announcedStaysReady : Obligations.AnnouncedStaysReady := fun _ _ _ sound ready h =>
  (step_keeps_of_atoms (P := fun s => s.AdmissionSound ∧ s.AnnouncedReady) (fun _ _ _ => id)
    (fun _ _ turn ⟨sound, ready⟩ =>
      ⟨turn.keeps_admissionSound sound, turn.keeps_announcedReady sound.1 ready⟩)
    (fun _ _ _ atom ⟨sound, ready⟩ => ⟨atom.keeps_admissionSound sound, atom.keeps_announcedReady ready⟩)
    h ⟨sound, ready⟩).2

end Sys2Proof.Machine

namespace Sys2Proof.Machine

/-! ### Own claims without what no invariant reads -/

section
variable (s : State)

/-- The own claims, as the invariants read them. -/
def State.cores : List OwnClaim := s.claims.own.map OwnClaim.core

theorem State.cores_of_frame {l : List Block} {s t : State} (frame : Frame l s t)
    (untouched : Block.claims ∉ l) : t.cores = s.cores := by
  have claims : t.claims = s.claims := frame .claims untouched
  rw [State.cores, claims, State.cores]

theorem State.cores_mapClaim (n : Octet) {f : OwnClaim → OwnClaim}
    (reads : ∀ c, (f c).core = f c.core) :
    (s.mapClaim n f).cores = s.cores.map fun c => if c.number = n then f c else c := by
  simp only [State.cores, State.mapClaim, State.withOwn, List.map_map]
  refine List.map_congr_left fun c _ => ?_
  simp only [Function.comp_apply, apply_ite OwnClaim.core, reads]
  rfl

theorem State.cores_mapClaim_same (n : Octet) {f : OwnClaim → OwnClaim} (same : ∀ c, (f c).core = c.core) :
    (s.mapClaim n f).cores = s.cores :=
  OwnClaim.map_core (fun c => by split <;> simp [same]) _

theorem State.cores_deleteClaim (n : Octet) :
    (s.deleteClaim n).cores = s.cores.filter fun c => c.number != n := by
  simp only [State.cores, State.deleteClaim, State.withOwn, List.filter_map]
  rfl

theorem State.cores_pushUrgent (r : UrgentRecord) : (s.pushUrgent r).cores = s.cores := rfl

theorem State.cores_queueClaim (n : Octet) : (s.queueClaim n).cores = s.cores :=
  s.cores_mapClaim_same n fun _ => rfl

theorem State.cores_offerUrgent (c : OwnClaim) : (s.offerUrgent c).cores = s.cores := by
  unfold State.offerUrgent
  split
  · exact s.cores_queueClaim _
  · rfl

theorem State.cores_serveOwed : s.serveOwed.cores = s.cores := by
  suffices ∀ l : List OwnClaim, ∀ t : State, (l.foldl State.offerUrgent t).cores = t.cores from this _ s
  intro l
  induction l with
  | nil => exact fun _ => rfl
  | cons c l ih => exact fun t => (ih _).trans (t.cores_offerUrgent c)

theorem State.cores_queueRelease (n : Octet) : (s.queueRelease n).cores = s.cores := by
  refine Eq.trans ?_ s.cores_serveOwed
  unfold State.queueRelease
  simp only
  split <;> rfl

theorem State.cores_requestAnnounce (n : Octet) : (s.requestAnnounce n).cores = s.cores := by
  unfold State.requestAnnounce
  split
  · rfl
  · split
    · refine Eq.trans ?_ s.cores_serveOwed
      simp only
      split
      · exact State.cores_queueClaim _ n
      · exact State.cores_mapClaim_same _ n fun _ => rfl
    · rfl

theorem State.cores_dismissClaim (c : OwnClaim) :
    (s.dismissClaim c).cores = s.cores.filter fun x => x.number != c.number := by
  unfold State.dismissClaim
  simp only
  split
  · exact (State.cores_queueRelease _ _).trans (s.cores_deleteClaim _)
  · exact s.cores_deleteClaim _

/-- An own claim abandoned while its frame is being sent (R52). -/
def OwnClaim.orphan (c : OwnClaim) : OwnClaim :=
  { c with abandoned := true, announce := .nothing, decision := .notDue, settleDue := none }

/-- A claim abandoned leaves the list, or is marked. -/
theorem State.cores_abandonClaim (c : OwnClaim) :
    (s.abandonClaim c).cores = (s.cores.filter fun x => x.number != c.number)
      ∨ (s.abandonClaim c).cores = s.cores.map fun x => if x.number = c.number then x.orphan else x := by
  unfold State.abandonClaim
  simp only
  split
  · exact .inr (State.cores_mapClaim _ _ (f := OwnClaim.orphan) fun _ => rfl)
  · exact .inl (State.cores_dismissClaim _ c)
  · exact .inl (State.cores_dismissClaim _ c)

theorem State.cores_abandonTag (tag : Octet) :
    (s.claimOf tag = none ∧ s.abandonTag tag = s)
      ∨ ∃ c, s.claimOf tag = some c
        ∧ ((s.abandonTag tag).cores = (s.cores.filter fun x => x.number != c.number)
          ∨ (s.abandonTag tag).cores = s.cores.map fun x => if x.number = c.number then x.orphan else x) := by
  unfold State.abandonTag
  cases s.claimOf tag with
  | none => exact .inl ⟨rfl, rfl⟩
  | some c => exact .inr ⟨c, rfl, s.cores_abandonClaim c⟩

theorem State.cores_clearClaim (tag : Octet) :
    (s.claimOf tag = none ∧ s.clearClaim tag = s)
      ∨ ∃ c, s.claimOf tag = some c
        ∧ (s.clearClaim tag).cores = s.cores.filter fun x => x.number != c.number := by
  unfold State.clearClaim
  cases s.claimOf tag with
  | none => exact .inl ⟨rfl, rfl⟩
  | some c =>
    refine .inr ⟨c, rfl, ?_⟩
    have kept (t : State) : (t.orphanFrame c.number).cores = t.cores := by
      unfold State.orphanFrame
      split <;> rfl
    exact (State.cores_queueRelease _ _).trans ((State.cores_deleteClaim _ _).trans (by rw [kept]; rfl))

/-- A claim whose placement is SEATED (R62). -/
def OwnClaim.seated (c : OwnClaim) : OwnClaim := { c with state := .seated }

theorem State.cores_seatClaim (tag : Octet) :
    (s.claimOf tag = none ∧ s.seatClaim tag = s)
      ∨ ∃ c, s.claimOf tag = some c
        ∧ (s.seatClaim tag).cores = s.cores.map fun x => if x.number = c.number then x.seated else x := by
  unfold State.seatClaim
  cases s.claimOf tag with
  | none => exact .inl ⟨rfl, rfl⟩
  | some c =>
    exact .inr ⟨c, rfl, (State.cores_requestAnnounce _ _).trans
      (s.cores_mapClaim _ (f := OwnClaim.seated) fun _ => rfl)⟩

theorem State.cores_announceHead (i : Nat) (p : Placement) :
    (s.announceHead i p).cores
      = s.cores ++ [(newClaim s.claims.nextNumber p (s.precedenceOf p)).core] := by
  have served := s.cores_serveOwed
  unfold State.cores at served ⊢
  unfold State.announceHead
  simp only [mapPlacement_claims, pushUrgent_claims, List.map_append, List.map_cons, List.map_nil, served]

end

end Sys2Proof.Machine

namespace Sys2Proof.Machine

/-! ### The numbers of own claims (R71) -/

/-- The numbers of the own claims. -/
def State.numbers (s : State) : List Octet := s.cores.map OwnClaim.number

theorem State.numbers_eq (s : State) : s.numbers = s.claims.own.map OwnClaim.number := by
  simp only [State.numbers, State.cores, List.map_map]
  rfl

theorem numbers_map {l : List OwnClaim} {f : OwnClaim → OwnClaim} (same : ∀ c, (f c).number = c.number) :
    (l.map f).map OwnClaim.number = l.map OwnClaim.number := by
  simp [List.map_map, Function.comp_def, same]

theorem numbers_mapNumber {l : List OwnClaim} (n : Octet) {f : OwnClaim → OwnClaim}
    (same : ∀ c, (f c).number = c.number) :
    (l.map fun c => if c.number = n then f c else c).map OwnClaim.number = l.map OwnClaim.number :=
  numbers_map fun c => by split <;> simp [same]

/-- A number that fewer than two claims leave free (R71). -/
theorem ClaimUnit.nextNumber_fresh {u : ClaimUnit} (room : u.own.length < Config.claimCapacity) :
    u.nextNumber ∉ u.own.map OwnClaim.number := by
  have two : Config.claimCapacity = 2 := rfl
  rw [two] at room
  unfold ClaimUnit.nextNumber
  match own : u.own with
  | [] => simp
  | [c] =>
    simp only [List.map_cons, List.map_nil, List.length_singleton, freeNumber, List.contains_cons,
      List.contains_nil, Bool.or_false, beq_iff_eq, List.mem_singleton]
    split
    · next held =>
      rw [held]
      intro same
      have := congrArg BitVec.toNat same
      simp [BitVec.toNat_add] at this
      omega
    · next free => exact free
  | _ :: _ :: l => simp [own] at room

/-- What a move does to the numbers of the own claims: some leave, or a free one joins where there is
room. -/
def NumbersMove (s t : State) : Prop :=
  t.numbers.Sublist s.numbers
    ∨ ∃ n, n ∉ s.numbers ∧ s.numbers.length < Config.claimCapacity ∧ t.numbers = s.numbers ++ [n]

theorem NumbersMove.of_cores {s t : State} (same : t.cores = s.cores) : NumbersMove s t :=
  .inl (by rw [State.numbers, same, State.numbers])

theorem NumbersMove.of_map {s t : State} {f : OwnClaim → OwnClaim} (same : ∀ c, (f c).number = c.number)
    (cores : t.cores = s.cores.map f) : NumbersMove s t :=
  .inl (by rw [State.numbers, cores, numbers_map same]; exact .refl _)

theorem NumbersMove.of_mapNumber {s t : State} {n : Octet} {f : OwnClaim → OwnClaim}
    (same : ∀ c, (f c).number = c.number)
    (cores : t.cores = s.cores.map fun c => if c.number = n then f c else c) : NumbersMove s t :=
  .of_map (fun c => by split <;> simp [same]) cores

theorem NumbersMove.of_filter {s t : State} {g : OwnClaim → Bool} (cores : t.cores = s.cores.filter g) :
    NumbersMove s t :=
  .inl (by rw [State.numbers, cores]; exact List.filter_sublist.map _)

theorem NumbersMove.of_mapClaim {s : State} {n : Octet} {f : OwnClaim → OwnClaim}
    (same : ∀ c, (f c).number = c.number) : NumbersMove s (s.mapClaim n f) := by
  refine .inl ?_
  rw [State.numbers_eq, State.numbers_eq]
  exact (numbers_mapNumber n same).symm ▸ .refl _

theorem State.numbers_abandonTag (s : State) (tag : Octet) : (s.abandonTag tag).numbers.Sublist s.numbers := by
  unfold State.numbers
  rcases s.cores_abandonTag tag with ⟨-, same⟩ | ⟨c, -, left | marked⟩
  · rw [same]
  · rw [left]; exact List.filter_sublist.map _
  · rw [marked, numbers_mapNumber (f := OwnClaim.orphan) _ fun _ => rfl]

theorem NumbersMove.congr {s t u : State} (h : NumbersMove s t) (same : u.cores = t.cores) :
    NumbersMove s u := by
  unfold NumbersMove State.numbers at h ⊢
  rwa [same]

theorem State.numbers_abandonAnnounced (s : State) : s.abandonAnnounced.numbers.Sublist s.numbers := by
  suffices ∀ (l : List Placement) (t : State),
      (l.foldl (fun t p => if p.state.announced then t.abandonTag p.tag else t) t).numbers.Sublist
        t.numbers from this _ s
  intro l
  induction l with
  | nil => exact fun _ => .refl _
  | cons p l ih =>
    refine fun t => (ih _).trans ?_
    show (if p.state.announced = true then t.abandonTag p.tag else t).numbers.Sublist t.numbers
    split
    · exact t.numbers_abandonTag p.tag
    · exact .refl _

theorem PlacementTurn.numbersMove {s t : State} (h : PlacementTurn s t) : NumbersMove s t := by
  cases h with
  | queue q => exact .of_cores rfl
  | own l same => exact .of_cores same
  | told position =>
    refine .inl ?_
    rw [State.numbers_eq, State.numbers_eq]
    have told (c : OwnClaim) : (c.told position).number = c.number := by unfold OwnClaim.told; split <;> rfl
    exact (numbers_map told).symm ▸ .refl _
  | defers c => exact .of_mapClaim (by intro; rfl)
  | lapses n => exact .of_mapClaim (by intro; rfl)
  | deletes n => exact .of_filter (s.cores_deleteClaim n)
  | waits i p f => exact .of_cores rfl
  | announces i p opened =>
    have room : s.claims.own.length < Config.claimCapacity := by
      simp only [State.admissionOpen, Bool.and_eq_true, decide_eq_true_eq] at opened
      exact opened.2
    refine .inr ⟨s.claims.nextNumber, ?_, by simpa [State.numbers_eq] using room, ?_⟩
    · rw [State.numbers_eq]; exact ClaimUnit.nextNumber_fresh room
    · rw [State.numbers, s.cores_announceHead]; simp [State.numbers, OwnClaim.core, newClaim]
  | retracts i p f => exact .inl (s.numbers_abandonTag p.tag)
  | sends c _ _ due settle =>
    have sent : NumbersMove s (s.mapClaim c.number fun c => c.sentAt due settle) :=
      .of_mapClaim fun _ => rfl
    split
    · exact sent.congr (State.cores_of_frame (State.mapTag_frame _ _ _ _) (by decide))
    · exact sent
  | drops c =>
    have left : NumbersMove s (s.deleteClaim c.number) := .of_filter (s.cores_deleteClaim _)
    exact left.congr (State.cores_of_frame (State.mapTag_frame _ _ _ _) (by decide))
  | clears i p f =>
    have cleared : NumbersMove s (s.clearClaim p.tag) := by
      rcases s.cores_clearClaim p.tag with ⟨-, same⟩ | ⟨c, -, left⟩
      · exact .of_cores (by rw [same])
      · exact .of_filter left
    exact cleared.congr rfl
  | places p => exact .of_cores rfl
  | failsAll => exact .inl s.numbers_abandonAnnounced

/-- The platform relaxed: STABILITY leaves the set. -/
theorem State.relax_frame (s : State) {new : Stability} (better : new ≠ .halted) :
    Frame [.monitor, .stop, .port] s ((s.writeStability new).stabilityCause new) := by
  rw [State.stabilityCause, if_neg better]
  exact ((s.writeStability_frame new).mono rfl).trans ((State.causeLeaves_frame _ _).mono rfl)

theorem State.numbers_yieldAnnounced (s : State) : s.yieldAnnounced.numbers.Sublist s.numbers := by
  unfold State.yieldAnnounced
  split
  · exact .refl _
  · split
    · exact .refl _
    · exact s.numbers_abandonTag _

theorem State.numbers_failTaken (s : State) : s.failTaken.numbers.Sublist s.numbers := by
  unfold State.failTaken
  split
  · exact .refl _
  · split
    · exact .refl _
    · split
      · exact s.numbers_abandonTag _
      · split
        · exact s.numbers_abandonTag _
        · exact .refl _

theorem Turn.numbersMove {s t : State} (h : Turn s t) : NumbersMove s t := by
  have framed {l : List Block} {u : State} (frame : Frame l s u) (untouched : Block.claims ∉ l) :
      NumbersMove s u := .of_cores (State.cores_of_frame frame untouched)
  cases h with
  | placing _ placed => exact placed.numbersMove
  | seats i p =>
    have inserted : (s.ownInsert p.target).cores = s.cores :=
      State.cores_of_frame (s.ownInsert_frame p.target) (by decide)
    have seated : NumbersMove (s.ownInsert p.target) ((s.ownInsert p.target).seatClaim p.tag) := by
      rcases (s.ownInsert p.target).cores_seatClaim p.tag with ⟨-, same⟩ | ⟨c, -, marked⟩
      · exact .of_cores (by rw [same])
      · exact .of_mapNumber (f := OwnClaim.seated) (fun _ => rfl) marked
    unfold NumbersMove State.numbers at seated ⊢
    rwa [inserted] at seated
  | loses u lost =>
    have same : u.numbers = s.numbers :=
      congrArg (List.map OwnClaim.number) (State.cores_of_frame lost.frame (by decide))
    exact .inl (same ▸ u.numbers_yieldAnnounced)
  | leaves c => exact framed (s.causeLeaves_frame c) (by decide)
  | renames station => exact framed (s.nameConflict_frame station) (by decide)
  | relaxes new _ better => exact framed (s.relax_frame better) (by decide)
  | maps u mapped =>
    have same : u.numbers = s.numbers :=
      congrArg (List.map OwnClaim.number) (State.cores_of_frame mapped.frame (by decide))
    exact .inl (same ▸ u.numbers_failTaken)
  | _ => exact .of_cores rfl

theorem State.firm_cores (s : State) (own : OwnClaim) :
    (s.makeFirm own).cores = s.cores.map fun c => if c.number = own.number then c.firm else c := by
  have queued : (s.makeFirm own).cores
      = ((s.mapClaim own.number OwnClaim.firm).requestAnnounce own.number).cores :=
    State.cores_of_frame (State.mapTag_frame _ _ _ _) (by decide)
  exact queued.trans ((State.cores_requestAnnounce _ _).trans (s.cores_mapClaim _ fun _ => rfl))

theorem Atom.numbersMove {c : Instr} {s t : State} (h : Atom c s t) : NumbersMove s t := by
  have empty {u : State} (none_held : u.claims.own = []) : NumbersMove s u := by
    refine .inl ?_
    rw [State.numbers_eq, none_held]
    exact List.nil_sublist _
  cases h with
  | firms own =>
    exact .of_mapNumber (f := OwnClaim.firm) (fun _ => rfl) (s.firm_cores own)
  | restarts cause hold =>
    have same : s.beginRestart.cores = s.cores := State.cores_of_frame s.beginRestart_frame (by decide)
    exact .of_cores same
  | off hold => exact empty rfl
  | cold i => exact empty rfl
  | warms i => exact empty rfl
  | _ => exact .of_cores rfl

/-! ### The transmit queues (R103) -/

/-- The transmit queues are within their capacities. -/
def State.QueuesFit (s : State) : Prop :=
  s.tx.urgent.length ≤ Config.urgentCapacity ∧ s.tx.bulk.length ≤ Config.bulkCapacity

section
variable {s : State}

theorem State.QueuesFit.of_frame {l : List Block} {t : State} (fit : s.QueuesFit) (frame : Frame l s t)
    (untouched : Block.tx ∉ l) : t.QueuesFit := by
  have tx : t.tx = s.tx := frame .tx untouched
  unfold State.QueuesFit
  rwa [tx]

theorem State.QueuesFit.pushUrgent (fit : s.QueuesFit) (free : s.urgentFree = true) (r : UrgentRecord) :
    (s.pushUrgent r).QueuesFit := by
  refine ⟨?_, fit.2⟩
  simp only [State.urgentFree, Bool.and_eq_true, decide_eq_true_eq] at free
  simp only [State.pushUrgent, State.withUrgent, List.length_append, List.length_singleton]
  omega

theorem State.QueuesFit.queueClaim (fit : s.QueuesFit) (free : s.urgentFree = true) (n : Octet) :
    (s.queueClaim n).QueuesFit :=
  State.QueuesFit.pushUrgent (s := s.mapClaim n fun c => { c with announce := .queued }) fit free _

theorem State.QueuesFit.offerUrgent (fit : s.QueuesFit) (c : OwnClaim) : (s.offerUrgent c).QueuesFit := by
  unfold State.offerUrgent
  split
  · next h => exact fit.queueClaim (by simp only [Bool.and_eq_true] at h; exact h.2) _
  · exact fit

theorem State.QueuesFit.serveOwed (fit : s.QueuesFit) : s.serveOwed.QueuesFit := by
  suffices ∀ (l : List OwnClaim) (t : State), t.QueuesFit → (l.foldl State.offerUrgent t).QueuesFit from
    this _ s fit
  intro l
  induction l with
  | nil => exact fun _ => id
  | cons c l ih => exact fun t fit => ih _ (fit.offerUrgent c)

theorem State.QueuesFit.queueRelease (fit : s.QueuesFit) (n : Octet) : (s.queueRelease n).QueuesFit := by
  unfold State.queueRelease
  simp only
  split
  · next free => exact fit.serveOwed.pushUrgent free _
  · exact fit.serveOwed

theorem State.QueuesFit.requestAnnounce (fit : s.QueuesFit) (n : Octet) :
    (s.requestAnnounce n).QueuesFit := by
  unfold State.requestAnnounce
  split
  · exact fit
  · split
    · simp only
      split
      · next free => exact fit.serveOwed.queueClaim free n
      · exact fit.serveOwed
    · exact fit

theorem State.QueuesFit.removeClaimRecords (fit : s.QueuesFit) (n : Octet) :
    (s.removeClaimRecords n).QueuesFit :=
  ⟨(List.length_filter_le _ _).trans fit.1, fit.2⟩

theorem State.QueuesFit.dismissClaim (fit : s.QueuesFit) (c : OwnClaim) :
    (s.dismissClaim c).QueuesFit := by
  unfold State.dismissClaim
  have deleted : (s.deleteClaim c.number).QueuesFit := fit
  simp only
  split
  · exact deleted.queueRelease _
  · exact deleted

theorem State.QueuesFit.abandonTag (fit : s.QueuesFit) (tag : Octet) : (s.abandonTag tag).QueuesFit := by
  unfold State.abandonTag
  split
  · exact fit
  · next c _ =>
    have removed := fit.removeClaimRecords c.number
    unfold State.abandonClaim
    simp only
    split
    · exact removed
    · exact State.QueuesFit.dismissClaim (s := (s.removeClaimRecords c.number).withCurrent none) removed c
    · exact removed.dismissClaim c

theorem State.QueuesFit.clearClaim (fit : s.QueuesFit) (tag : Octet) : (s.clearClaim tag).QueuesFit := by
  unfold State.clearClaim
  split
  · exact fit
  · next c _ =>
    have removed := fit.removeClaimRecords c.number
    have orphaned : ((s.removeClaimRecords c.number).orphanFrame c.number).QueuesFit := by
      unfold State.orphanFrame
      split <;> exact removed
    exact State.QueuesFit.queueRelease
      (s := ((s.removeClaimRecords c.number).orphanFrame c.number).deleteClaim c.number) orphaned _

theorem State.QueuesFit.seatClaim (fit : s.QueuesFit) (tag : Octet) : (s.seatClaim tag).QueuesFit := by
  unfold State.seatClaim
  split
  · exact fit
  · exact State.QueuesFit.requestAnnounce (s := s.mapClaim _ _) fit _

theorem State.QueuesFit.abandonAnnounced (fit : s.QueuesFit) : s.abandonAnnounced.QueuesFit := by
  suffices ∀ (l : List Placement) (t : State), t.QueuesFit →
      (l.foldl (fun t p => if p.state.announced then t.abandonTag p.tag else t) t).QueuesFit from
    this _ s fit
  intro l
  induction l with
  | nil => exact fun _ => id
  | cons p l ih =>
    refine fun t fit => ih _ ?_
    show (if p.state.announced = true then t.abandonTag p.tag else t).QueuesFit
    split
    · exact fit.abandonTag _
    · exact fit

/-- An OWED announce served takes at most one place. -/
theorem State.offerUrgent_length (s : State) (c : OwnClaim) :
    (s.offerUrgent c).tx.urgent.length
      ≤ s.tx.urgent.length + if c.announce == .owed then 1 else 0 := by
  unfold State.offerUrgent
  split
  · next h =>
    simp only [Bool.and_eq_true, decide_eq_true_eq] at h
    simp [State.queueClaim, State.pushUrgent, State.withUrgent, State.mapClaim, State.withOwn, h.1]
  · omega

/-- The OWED announces take at most a place each (R104). -/
theorem State.serveOwed_length (s : State) :
    s.serveOwed.tx.urgent.length
      ≤ s.tx.urgent.length + s.claims.own.countP (fun c => c.announce == .owed) := by
  suffices ∀ (l : List OwnClaim) (t : State), (l.foldl State.offerUrgent t).tx.urgent.length
      ≤ t.tx.urgent.length + l.countP (fun c => c.announce == .owed) from this _ s
  intro l
  induction l with
  | nil => exact fun _ => le_rfl
  | cons c l ih =>
    intro t
    refine (ih _).trans ?_
    have offered := t.offerUrgent_length c
    rw [List.countP_cons]
    omega

theorem State.QueuesFit.announceHead (fit : s.QueuesFit) (room : s.urgentRoom = true) (i : Nat)
    (p : Placement) : (s.announceHead i p).QueuesFit := by
  refine ⟨?_, fit.serveOwed.2⟩
  simp only [State.urgentRoom, Bool.and_eq_true, decide_eq_true_eq] at room
  have served := s.serveOwed_length
  simp only [State.announceHead, mapPlacement_tx, pushUrgent_tx, List.length_append, List.length_singleton]
  omega

end

theorem PlacementTurn.keeps_queuesFit {s t : State} (h : PlacementTurn s t) (fit : s.QueuesFit) :
    t.QueuesFit := by
  cases h with
  | announces i p opened place head judged =>
    obtain ⟨-, -, -, -, -, -, room⟩ := State.failedGate_eq_none.mp (State.judgeHead_announce judged).2.2.2
    exact fit.announceHead room i p
  | retracts i p => exact fit.abandonTag p.tag
  | sends c =>
    split
    · exact State.QueuesFit.of_frame (s := s.mapClaim _ _) fit (State.mapTag_frame _ _ _ _) (by decide)
    · exact fit
  | drops c =>
    exact State.QueuesFit.of_frame (s := s.deleteClaim _) fit (State.mapTag_frame _ _ _ _) (by decide)
  | clears i p => exact fit.clearClaim p.tag
  | failsAll => exact fit.abandonAnnounced
  | _ => exact fit

theorem State.QueuesFit.yieldAnnounced {s : State} (fit : s.QueuesFit) : s.yieldAnnounced.QueuesFit := by
  unfold State.yieldAnnounced
  split
  · exact fit
  · split
    · exact fit
    · exact fit.abandonTag _

theorem State.QueuesFit.failTaken {s : State} (fit : s.QueuesFit) : s.failTaken.QueuesFit := by
  unfold State.failTaken
  split
  · exact fit
  · split
    · exact fit
    · split
      · exact fit.abandonTag _
      · split
        · exact fit.abandonTag _
        · exact fit

theorem Turn.keeps_queuesFit {s t : State} (h : Turn s t) (fit : s.QueuesFit) : t.QueuesFit := by
  cases h with
  | tx x urgent bulk => exact ⟨urgent.elim (·.trans fit.1) id, bulk.elim (·.trans fit.2) id⟩
  | placing _ placed => exact placed.keeps_queuesFit fit
  | seats i p =>
    exact (State.QueuesFit.of_frame fit (s.ownInsert_frame p.target) (by decide)).seatClaim p.tag
  | loses u lost => exact (State.QueuesFit.of_frame fit lost.frame (by decide)).yieldAnnounced
  | leaves c => exact fit.of_frame (s.causeLeaves_frame c) (by decide)
  | renames station => exact fit.of_frame (s.nameConflict_frame station) (by decide)
  | relaxes new _ better => exact fit.of_frame (s.relax_frame better) (by decide)
  | maps u mapped => exact (State.QueuesFit.of_frame fit mapped.frame (by decide)).failTaken
  | _ => exact fit

theorem Atom.keeps_queuesFit {c : Instr} {s t : State} (h : Atom c s t) (fit : s.QueuesFit) :
    t.QueuesFit := by
  have empty {u : State} (urgent : u.tx.urgent = []) (bulk : u.tx.bulk = []) : u.QueuesFit := by
    unfold State.QueuesFit
    rw [urgent, bulk]
    exact ⟨Nat.zero_le _, Nat.zero_le _⟩
  cases h with
  | firms own =>
    have queued := State.QueuesFit.requestAnnounce (s := s.mapClaim own.number OwnClaim.firm) fit own.number
    exact queued.of_frame (State.mapTag_frame _ _ _ _) (by decide)
  | restarts cause hold => exact empty rfl rfl
  | off hold => exact empty rfl rfl
  | cold i => exact empty rfl rfl
  | warms i => exact empty rfl rfl
  | _ => exact fit

end Sys2Proof.Machine

namespace Sys2Proof.Machine

/-! ### The size of the course map (R11) -/

theorem insertRecord_new {r : SlotRecord} {l : List SlotRecord} (absent : findRecord l r.slot = none) :
    ∃ before after, l = before ++ after ∧ insertRecord r l = before ++ r :: after := by
  induction l with
  | nil => exact ⟨[], [], rfl, rfl⟩
  | cons x xs ih =>
    have other : x.slot ≠ r.slot := by
      intro same
      simp [findRecord, same] at absent
    unfold insertRecord
    rw [if_neg other]
    split
    · exact ⟨[], x :: xs, rfl, rfl⟩
    · obtain ⟨before, after, split, inserted⟩ := ih (by simpa [findRecord, other] using absent)
      exact ⟨x :: before, after, by simp [split], by simp [inserted]⟩

theorem Slot.not_before_of_mem {x : SlotRecord} {xs : List SlotRecord} {slot : Slot}
    (order : (x :: xs).Pairwise fun a b => a.slot.before b.slot = true)
    (member : ∃ y ∈ xs, y.slot = slot) : slot.before x.slot ≠ true := by
  obtain ⟨y, hy, rfl⟩ := member
  intro back
  have forth := (List.pairwise_cons.mp order).1 y hy
  have loop := Slot.before_trans forth back
  rw [Slot.before_irrefl] at loop
  cases loop

theorem insertRecord_old {r x : SlotRecord} {l : List SlotRecord}
    (order : l.Pairwise fun a b => a.slot.before b.slot = true) (found : findRecord l r.slot = some x) :
    ∃ before after, l = before ++ x :: after ∧ insertRecord r l = before ++ r :: after := by
  induction l with
  | nil => cases found
  | cons y ys ih =>
    unfold insertRecord
    by_cases same : y.slot = r.slot
    · rw [if_pos same]
      have : y = x := by simpa [findRecord, same] using found
      exact ⟨[], ys, by rw [this]; rfl, rfl⟩
    · have later : findRecord ys r.slot = some x := by simpa [findRecord, same] using found
      obtain ⟨hx, slot⟩ := mem_of_findRecord later
      rw [if_neg same, if_neg (Slot.not_before_of_mem order ⟨x, hx, slot⟩)]
      obtain ⟨before, after, split, inserted⟩ := ih (List.pairwise_cons.mp order).2 later
      exact ⟨y :: before, after, by simp [split], by simp [inserted]⟩

/-- The map holds at most this many records, and at most 1,022 of peers. -/
def MapFits (bound : Nat) (l : List SlotRecord) : Prop :=
  l.length ≤ bound ∧ l.countP (fun r => !r.own) ≤ Config.peerInsertLimit

/-- A placement of the queue closes admission. -/
def SomeCloses (q : List Placement) : Prop := ∃ p ∈ q, p.state.closes = true

theorem State.mapBounded_iff {s : State} : s.MapBounded ↔
    MapFits Config.mapCapacity s.map.records
      ∧ (SomeCloses s.admission.queue → s.map.records.length + 1 ≤ Config.mapCapacity) := by
  simp only [State.MapBounded, MapFits, SomeCloses, List.any_eq_true]
  tauto

theorem insertRecord_length_le (r : SlotRecord) (l : List SlotRecord) :
    (insertRecord r l).length ≤ l.length + 1 := by
  induction l with
  | nil => exact le_rfl
  | cons x xs ih =>
    unfold insertRecord
    split
    · simp
    · split
      · simp
      · simpa using ih

/-- What a change of the map does to its size: it does not grow, or stays within the bound of R11. -/
theorem MapStep.records_fit {s u : State} (h : MapStep s u) (sound : s.MapSound)
    (fit : s.map.records.countP (fun r => !r.own) ≤ Config.peerInsertLimit) :
    (u.map.records.length ≤ s.map.records.length ∨ u.map.records.length ≤ Config.peerInsertLimit)
      ∧ u.map.records.countP (fun r => !r.own) ≤ Config.peerInsertLimit := by
  cases h with
  | put r _ new old =>
    show ((insertRecord r s.map.records).length ≤ _ ∨ (insertRecord r s.map.records).length ≤ _)
      ∧ (insertRecord r s.map.records).countP (fun r => !r.own) ≤ _
    cases found : s.recordAt r.slot with
    | none =>
      obtain ⟨-, room, -⟩ := new found
      have grown := insertRecord_length_le r s.map.records
      have fits : (insertRecord r s.map.records).length ≤ Config.peerInsertLimit := by omega
      exact ⟨.inr fits, List.countP_le_length.trans fits⟩
    | some x =>
      obtain ⟨before, after, split, inserted⟩ := insertRecord_old sound.1 found
      rw [inserted]
      rw [split] at fit ⊢
      have same := (old x found).1
      refine ⟨.inl (by simp), ?_⟩
      simpa [List.countP_append, List.countP_cons, same] using fit
  | raise w h =>
    exact ⟨.inl (List.length_filter_le _ _), (List.filter_sublist.countP_le).trans fit⟩
  | gap w => exact ⟨.inl le_rfl, fit⟩

/-- The own insert makes at most one record more, and no peer record (R12). -/
theorem State.ownInsert_fit {s : State} (slot : Slot) (sound : s.MapSound) :
    (s.ownInsert slot).map.records.length ≤ s.map.records.length + 1
      ∧ (s.ownInsert slot).map.records.countP (fun r => !r.own)
        ≤ s.map.records.countP (fun r => !r.own) := by
  rcases s.ownInsert_records slot with same | ⟨r, rfl, own, -, records, fresh⟩
  · rw [same]; exact ⟨Nat.le_succ _, le_rfl⟩
  · rw [records]
    refine ⟨insertRecord_length_le r _, ?_⟩
    rcases fresh with ⟨absent, -⟩ | ⟨x, found, peer, -⟩
    · obtain ⟨before, after, split, inserted⟩ := insertRecord_new absent
      rw [inserted, split]
      simp [List.countP_append, own]
    · obtain ⟨before, after, split, inserted⟩ := insertRecord_old sound.1 found
      rw [inserted, split]
      simpa [List.countP_append, own] using (List.sublist_cons_self x after).countP_le

theorem someCloses_of_core {q r : List Placement} (core : r.map Placement.core = q.map Placement.core) :
    SomeCloses r → SomeCloses q := by
  rintro ⟨p, member, closed⟩
  obtain ⟨x, hx, same⟩ := mem_of_core core member
  simp only [Placement.core, Prod.mk.injEq] at same
  exact ⟨x, hx, same.2.2 ▸ closed⟩

/-- A move leaves no placement closing admission where none did, but the head that it announces. -/
theorem QueueMove.someCloses {A N : Placement → Prop} {q r : List Placement} (h : QueueMove A N q r)
    (closed : SomeCloses r) : SomeCloses q ∨ ∃ p, A p := by
  obtain ⟨y, member, holds⟩ := closed
  cases h with
  | same core => exact .inl (someCloses_of_core core ⟨y, member, holds⟩)
  | @changes before after p x named move =>
    rcases mem_of_change (p := p) member with rfl | hy
    · exact .inl ⟨p, by simp, move.closes_le.1 holds⟩
    · exact .inl ⟨y, hy, holds⟩
  | @announces before after p x named head next judged => exact .inr ⟨p, judged⟩
  | @appends q p room fresh queued =>
    rcases List.mem_append.mp member with hy | hy
    · exact .inl ⟨y, hy, holds⟩
    · obtain rfl := List.mem_singleton.mp hy
      rw [queued] at holds
      cases holds
  | failsAll clear =>
    obtain ⟨p, -, rfl⟩ := List.mem_map.mp member
    split at holds
    · next terminal => simp [(PlacementState.not_closes (.inr terminal)).1] at holds
    · cases holds

/-- A placement closes admission after a move where one did before, or the map has own room. -/
theorem Turn.someCloses {s t : State} (h : Turn s t) (closed : SomeCloses t.admission.queue) :
    SomeCloses s.admission.queue ∨ s.ownRoom = true := by
  refine h.keeps_queue (P := fun q => SomeCloses q → SomeCloses s.admission.queue ∨ s.ownRoom = true)
    (fun q r move before some => ?_)
    (fun _ _ part before ⟨p, member, holds⟩ => before ⟨p, part.subset member, holds⟩) .inl closed
  rcases move.someCloses some with some | ⟨p, judged⟩
  · exact before some
  · obtain ⟨-, -, -, room, -⟩ := State.failedGate_eq_none.mp (State.judgeHead_announce judged).2.2.2
    exact .inr room

theorem Turn.keeps_mapBounded {s t : State} (h : Turn s t) (sound : s.MapSound)
    (one : AtMostOneCloses s.admission.queue) (bounded : s.MapBounded) : t.MapBounded := by
  have closing := h.someCloses
  rw [State.mapBounded_iff] at bounded ⊢
  obtain ⟨⟨size, peers⟩, closed⟩ := bounded
  have kept (length : t.map.records.length ≤ s.map.records.length)
      (count : t.map.records.countP (fun r => !r.own) ≤ s.map.records.countP (fun r => !r.own)) :
      MapFits Config.mapCapacity t.map.records
        ∧ (SomeCloses t.admission.queue → t.map.records.length + 1 ≤ Config.mapCapacity) := by
    refine ⟨⟨length.trans size, count.trans peers⟩, fun some => ?_⟩
    rcases closing some with some | room
    · exact (Nat.succ_le_succ length).trans (closed some)
    · simp only [State.ownRoom, decide_eq_true_eq] at room
      omega
  have framed {l : List Block} (frame : Frame l s t) (untouched : Block.map ∉ l) :
      MapFits Config.mapCapacity t.map.records
        ∧ (SomeCloses t.admission.queue → t.map.records.length + 1 ≤ Config.mapCapacity) := by
    have map : t.map = s.map := frame .map untouched
    exact kept (by rw [map]) (by rw [map])
  cases h with
  | records x same =>
    have read (l : List SlotRecord) :
        l.countP (fun r => !r.own) = (l.map SlotRecord.core).countP fun k => !k.2.2 := by
      rw [List.countP_map]
      rfl
    have length : x.length = s.map.records.length := by simpa using congrArg List.length same
    exact kept length.le (by rw [read, read]; exact (congrArg _ same).le)
  | placing _ placed => exact framed placed.frame (by decide)
  | seats i p place firm =>
    obtain ⟨map, -⟩ := s.seat_map p.target p.tag i Placement.seat
    obtain ⟨grown, count⟩ := s.ownInsert_fit p.target sound
    have room := closed ⟨p, List.mem_of_getElem? place, by rw [firm]; rfl⟩
    refine ⟨?_, ?_⟩
    · rw [map]; exact ⟨grown.trans room, count.trans peers⟩
    · rintro ⟨y, member, holds⟩
      obtain ⟨before, after, queue, rfl⟩ := List.split_of_getElem? place
      rw [s.seat_queue queue] at member
      rw [queue] at one
      rcases List.mem_append.mp member with hy | hy
      · simp [one.others (by rw [firm]; rfl) y (.inl hy)] at holds
      · rcases List.mem_cons.mp hy with rfl | hy
        · cases holds
        · simp [one.others (by rw [firm]; rfl) y (.inr hy)] at holds
  | loses u lost =>
    exact framed ((lost.frame.mono (m := .monitor :: .notice :: cascade) rfl).trans
      (u.yieldAnnounced_frame.mono rfl)) (by decide)
  | leaves c => exact framed (s.causeLeaves_frame c) (by decide)
  | renames station => exact framed (s.nameConflict_frame station) (by decide)
  | relaxes new _ better => exact framed (s.relax_frame better) (by decide)
  | maps u mapped =>
    obtain ⟨length, count⟩ := mapped.records_fit sound peers
    have map : u.failTaken.map = u.map := u.failTaken_frame .map (by decide)
    rw [map]
    have limit : Config.peerInsertLimit + 2 = Config.mapCapacity := rfl
    refine ⟨⟨?_, count⟩, fun some => ?_⟩
    · omega
    · rcases length with length | length
      · rcases closing some with some | room
        · have := closed some
          omega
        · simp only [State.ownRoom, decide_eq_true_eq] at room
          omega
      · omega
  | _ => exact kept le_rfl le_rfl

/-! ### The other bounds (R39, R77, R96, R141) -/

theorem QueueMove.keeps_capacity {A N : Placement → Prop} {q r : List Placement} (h : QueueMove A N q r)
    (fits : q.length ≤ Config.queueCapacity) : r.length ≤ Config.queueCapacity := by
  cases h with
  | same core =>
    have length : r.length = q.length := by simpa using congrArg List.length core
    omega
  | changes => simpa using fits
  | announces => simpa using fits
  | @appends q p room => simpa using room
  | failsAll => simpa using fits

/-- The gust history, the receive store and the peer table by their rules. -/
def State.TablesFit (s : State) : Prop :=
  s.monitor.gusts.length ≤ 12 ∧ s.StoreSound ∧ PeersSound s.claims.peers

theorem State.TablesFit.of_same {s t : State} (fit : s.TablesFit)
    (gusts : t.monitor.gusts = s.monitor.gusts) (rx : t.rx = s.rx) (peers : t.claims.peers = s.claims.peers) : t.TablesFit := by
  unfold State.TablesFit State.StoreSound
  rw [gusts, rx, peers]
  exact fit

section
variable (s : State)

/-- The peer claims of a state. -/
def State.peers : List PeerEntry := s.claims.peers

theorem State.peers_offerUrgent (c : OwnClaim) : (s.offerUrgent c).peers = s.peers := by
  unfold State.offerUrgent
  split <;> rfl

theorem State.peers_serveOwed : s.serveOwed.peers = s.peers := by
  suffices ∀ (l : List OwnClaim) (t : State), (l.foldl State.offerUrgent t).peers = t.peers from this _ s
  intro l
  induction l with
  | nil => exact fun _ => rfl
  | cons c l ih => exact fun t => (ih _).trans (t.peers_offerUrgent c)

theorem State.peers_queueRelease (n : Octet) : (s.queueRelease n).peers = s.peers := by
  refine Eq.trans ?_ s.peers_serveOwed
  unfold State.queueRelease
  simp only
  split <;> rfl

theorem State.peers_requestAnnounce (n : Octet) : (s.requestAnnounce n).peers = s.peers := by
  unfold State.requestAnnounce
  split
  · rfl
  · split
    · refine Eq.trans ?_ s.peers_serveOwed
      simp only
      split <;> rfl
    · rfl

theorem State.peers_dismissClaim (c : OwnClaim) : (s.dismissClaim c).peers = s.peers := by
  unfold State.dismissClaim
  simp only
  split
  · exact State.peers_queueRelease _ _
  · rfl

theorem State.peers_abandonTag (tag : Octet) : (s.abandonTag tag).peers = s.peers := by
  unfold State.abandonTag State.abandonClaim
  split
  · rfl
  · simp only
    split
    · rfl
    · exact State.peers_dismissClaim _ _
    · exact State.peers_dismissClaim _ _

theorem State.peers_clearClaim (tag : Octet) : (s.clearClaim tag).peers = s.peers := by
  unfold State.clearClaim
  split
  · rfl
  · next c _ =>
    have orphaned (t : State) : (t.orphanFrame c.number).peers = t.peers := by
      unfold State.orphanFrame
      split <;> rfl
    exact (State.peers_queueRelease _ _).trans (orphaned _)

theorem State.peers_seatClaim (tag : Octet) : (s.seatClaim tag).peers = s.peers := by
  unfold State.seatClaim
  split
  · rfl
  · exact State.peers_requestAnnounce _ _

theorem State.peers_mapTag (tag : Octet) (x : PlacementState) (f : Placement → Placement) :
    (s.mapTag tag x f).peers = s.peers := by
  have claims : (s.mapTag tag x f).claims = s.claims := State.mapTag_frame s _ _ _ .claims (by decide)
  exact congrArg ClaimUnit.peers claims

theorem State.peers_announceHead (i : Nat) (p : Placement) : (s.announceHead i p).peers = s.peers :=
  s.peers_serveOwed

theorem State.peers_abandonAnnounced : s.abandonAnnounced.peers = s.peers := by
  suffices ∀ (l : List Placement) (t : State),
      (l.foldl (fun t p => if p.state.announced then t.abandonTag p.tag else t) t).peers = t.peers from
    this _ s
  intro l
  induction l with
  | nil => exact fun _ => rfl
  | cons p l ih =>
    refine fun t => (ih _).trans ?_
    show (if p.state.announced = true then t.abandonTag p.tag else t).peers = t.peers
    split
    · exact t.peers_abandonTag _
    · rfl

theorem State.peers_yieldAnnounced : s.yieldAnnounced.peers = s.peers := by
  unfold State.yieldAnnounced
  split
  · rfl
  · split
    · rfl
    · exact s.peers_abandonTag _

theorem State.peers_failTaken : s.failTaken.peers = s.peers := by
  unfold State.failTaken
  split
  · rfl
  · split
    · rfl
    · split
      · exact s.peers_abandonTag _
      · split
        · exact s.peers_abandonTag _
        · rfl

theorem State.peers_of_frame {l : List Block} {s t : State} (frame : Frame l s t)
    (untouched : Block.claims ∉ l) : t.peers = s.peers := by
  have claims : t.claims = s.claims := frame .claims untouched
  rw [State.peers, claims, State.peers]

end

theorem PlacementTurn.peers {s t : State} (h : PlacementTurn s t) : t.peers = s.peers := by
  cases h with
  | announces i p => exact s.peers_announceHead i p
  | retracts i p => exact s.peers_abandonTag _
  | sends c =>
    split
    · exact State.peers_mapTag _ _ _ _
    · rfl
  | drops c => exact State.peers_mapTag _ _ _ _
  | clears i p => exact s.peers_clearClaim _
  | failsAll => exact s.peers_abandonAnnounced
  | _ => rfl

theorem State.gusts_stability (s : State) (new : Stability) :
    ((s.writeStability new).stabilityCause new).monitor.gusts = s.monitor.gusts := by
  have monitor : ((s.writeStability new).stabilityCause new).monitor = (s.writeStability new).monitor :=
    State.stabilityCause_cascade _ _ .monitor (by decide)
  rw [monitor]
  rfl

theorem Loses.gusts {s u : State} (h : Loses s u) : u.monitor.gusts = s.monitor.gusts := by
  cases h with
  | cause c =>
    have monitor : (s.causeJoins c).monitor = s.monitor := s.causeJoins_frame c .monitor (by decide)
    rw [monitor]
  | conflict station =>
    have monitor : ((s.causeJoins .claimConflict).nameConflict station).monitor = s.monitor :=
      ((s.causeJoins_frame .claimConflict).trans ((State.nameConflict_frame _ station).mono rfl)) .monitor
        (by decide)
    rw [monitor]
  | stability new => exact s.gusts_stability new
  | doubt due => rfl

theorem Turn.keeps_tablesFit {s t : State} (h : Turn s t) (fit : s.TablesFit) : t.TablesFit := by
  obtain ⟨gusts, store, sound⟩ := fit
  have framed {l : List Block} {u v : State} (kept : u.TablesFit) (frame : Frame l u v)
      (untouched : Block.monitor ∉ l ∧ Block.rx ∉ l) (peers : v.peers = u.peers) : v.TablesFit :=
    kept.of_same (congrArg Monitor.gusts (frame .monitor untouched.1)) (frame .rx untouched.2) peers
  have fit : s.TablesFit := ⟨gusts, store, sound⟩
  cases h with
  | rx x fits => exact ⟨gusts, fits.elim (·.trans store) id, sound⟩
  | monitor x _ bound => exact ⟨bound.elim (·.trans gusts) id, store, sound⟩
  | peers x n kept => exact ⟨gusts, store, kept sound⟩
  | placing _ placed => exact framed fit placed.frame (by decide) placed.peers
  | seats i p =>
    refine framed fit (s.seat_frame _ _ i _) (by decide) ?_
    exact ((s.ownInsert p.target).peers_seatClaim _).trans
      (State.peers_of_frame (s.ownInsert_frame _) (by decide))
  | loses u lost =>
    have rx : u.rx = s.rx := lost.frame .rx (by decide)
    have kept : u.TablesFit :=
      fit.of_same lost.gusts rx (State.peers_of_frame lost.frame (by decide))
    exact framed kept u.yieldAnnounced_frame (by decide) u.peers_yieldAnnounced
  | leaves c =>
    exact framed fit (s.causeLeaves_frame c) (by decide)
      (State.peers_of_frame (s.causeLeaves_frame c) (by decide))
  | renames station =>
    exact framed fit (s.nameConflict_frame station) (by decide)
      (State.peers_of_frame (s.nameConflict_frame station) (by decide))
  | relaxes new _ better =>
    have frame := s.relax_frame better
    exact fit.of_same (s.gusts_stability new) (frame .rx (by decide))
      (State.peers_of_frame frame (by decide))
  | maps u mapped =>
    have changed := framed fit mapped.frame (by decide) (State.peers_of_frame mapped.frame (by decide))
    exact framed changed u.failTaken_frame (by decide) u.peers_failTaken
  | _ => exact fit

theorem State.bounded_iff {s : State} : s.Bounded ↔
    s.admission.queue.length ≤ Config.queueCapacity ∧ s.QueuesFit ∧ s.MapBounded ∧ s.TablesFit
      ∧ s.numbers.length ≤ Config.claimCapacity ∧ s.numbers.Nodup := by
  simp only [State.Bounded, State.WithinCapacity, State.QueuesFit, State.TablesFit, State.numbers_eq,
    List.length_map]
  tauto

theorem NumbersMove.keeps {s t : State} (h : NumbersMove s t)
    (held : s.numbers.length ≤ Config.claimCapacity ∧ s.numbers.Nodup) :
    t.numbers.length ≤ Config.claimCapacity ∧ t.numbers.Nodup := by
  obtain ⟨capacity, distinct⟩ := held
  rcases h with part | ⟨n, fresh, room, joined⟩
  · exact ⟨part.length_le.trans capacity, distinct.sublist part⟩
  · rw [joined]
    refine ⟨by simpa using room, List.nodup_append.mpr ⟨distinct, List.nodup_singleton _, ?_⟩⟩
    intro x hx y hy same
    obtain rfl := List.mem_singleton.mp hy
    exact fresh (same ▸ hx)

theorem Turn.keeps_bounded {s t : State} (h : Turn s t) (sound : s.MapSound) (closed : s.AdmissionSound)
    (bounded : s.Bounded) : t.Bounded := by
  rw [State.bounded_iff] at bounded ⊢
  obtain ⟨queue, fit, map, tables, numbers⟩ := bounded
  exact ⟨h.keeps_queue (P := fun q => q.length ≤ Config.queueCapacity) (fun _ _ move => move.keeps_capacity)
      (fun _ _ part fits => part.length_le.trans fits) queue,
    h.keeps_queuesFit fit, h.keeps_mapBounded sound closed.1 map, h.keeps_tablesFit tables,
    h.numbersMove.keeps numbers⟩

/-- The special moves make no placement and no record. -/
theorem Atom.keeps_queue_length {c : Instr} {s t : State} (h : Atom c s t) :
    t.admission.queue.length ≤ s.admission.queue.length := by
  cases h with
  | firms own =>
    rcases s.makeFirm_queue own with kept | ⟨before, p, x, after, queue, changed, -⟩
    · exact (congrArg List.length kept).le
    · refine le_of_eq ((congrArg List.length changed).trans ?_)
      rw [queue]
      simp
  | restarts cause hold =>
    exact le_of_eq (by simpa using congrArg List.length s.beginRestart_core)
  | off hold => exact Nat.zero_le _
  | cold i => exact Nat.zero_le _
  | warms i => exact Nat.zero_le _
  | _ => exact le_rfl

theorem Atom.someCloses {c : Instr} {s t : State} (h : Atom c s t) (closed : SomeCloses t.admission.queue) :
    SomeCloses s.admission.queue := by
  have empty {q : List Placement} (none_queued : q = []) (some : SomeCloses q) :
      SomeCloses s.admission.queue := by
    obtain ⟨p, member, -⟩ := some
    rw [none_queued] at member
    exact absurd member List.not_mem_nil
  cases h with
  | firms own =>
    rcases s.makeFirm_queue own with kept | ⟨before, p, x, after, queue, changed, -, was, -⟩
    · exact kept ▸ (show SomeCloses (s.makeFirm own).admission.queue from closed)
    · exact ⟨p, by rw [queue]; simp, by rw [was]; rfl⟩
  | restarts cause hold => exact someCloses_of_core s.beginRestart_core closed
  | off hold => exact empty rfl closed
  | cold i => exact empty rfl closed
  | warms i => exact empty rfl closed
  | _ => exact closed

theorem Atom.keeps_mapBounded {c : Instr} {s t : State} (h : Atom c s t) (bounded : s.MapBounded) :
    t.MapBounded := by
  have closing := h.someCloses
  have same (records : t.map.records = s.map.records) : t.MapBounded := by
    rw [State.mapBounded_iff] at bounded ⊢
    rw [records]
    exact ⟨bounded.1, fun some => bounded.2 (closing some)⟩
  have empty (records : t.map.records = []) : t.MapBounded := by
    rw [State.mapBounded_iff, records]
    exact ⟨⟨Nat.zero_le _, Nat.zero_le _⟩, fun _ => by decide⟩
  cases h with
  | firms own =>
    have map : (s.makeFirm own).map = s.map := s.firm_frame _ _ _ _ .map (by decide)
    exact same (congrArg CourseMap.records map)
  | restarts cause hold =>
    have map : s.beginRestart.map = s.map := s.beginRestart_frame .map (by decide)
    exact same (congrArg CourseMap.records map)
  | off hold => exact empty rfl
  | cold i => exact empty rfl
  | _ => exact same rfl

theorem Atom.keeps_tablesFit {c : Instr} {s t : State} (h : Atom c s t) (fit : s.TablesFit) :
    t.TablesFit := by
  have empty {u : State} (gusts : u.monitor.gusts = []) (fill : u.StoreSound)
      (peers : u.claims.peers = []) : u.TablesFit := by
    refine ⟨by simp [gusts], fill, ?_⟩
    rw [peers]
    exact ⟨Nat.zero_le _, fun _ => Nat.zero_le _, .nil⟩
  cases h with
  | firms own =>
    have frame : Frame [.admission, .claims, .tx] s (s.makeFirm own) := s.firm_frame _ _ _ _
    have monitor : (s.makeFirm own).monitor = s.monitor := frame .monitor (by decide)
    refine fit.of_same (t := s.makeFirm own) (congrArg Monitor.gusts monitor) (frame .rx (by decide)) ?_
    have queued := (s.mapClaim own.number OwnClaim.firm).peers_requestAnnounce own.number
    exact (State.peers_mapTag _ _ _ _).trans queued
  | restarts cause hold =>
    have frame := s.beginRestart_frame
    have monitor : s.beginRestart.monitor = s.monitor := frame .monitor (by decide)
    have peers : s.beginRestart.peers = s.peers := State.peers_of_frame frame (by decide)
    exact fit.of_same (congrArg Monitor.gusts monitor) (frame .rx (by decide)) peers
  | off hold => exact empty rfl (Nat.zero_le _) rfl
  | cold i => exact empty rfl (Nat.zero_le _) rfl
  | warms i => exact empty rfl (Nat.zero_le _) rfl
  | _ => exact fit

theorem Atom.keeps_bounded {c : Instr} {s t : State} (h : Atom c s t) (bounded : s.Bounded) : t.Bounded := by
  rw [State.bounded_iff] at bounded ⊢
  obtain ⟨queue, fit, map, tables, numbers⟩ := bounded
  exact ⟨h.keeps_queue_length.trans queue, h.keeps_queuesFit fit, h.keeps_mapBounded map,
    h.keeps_tablesFit tables, h.numbersMove.keeps numbers⟩

/-- Settles O56: each list grows only where it has room, and the map keeps a place for a placement that
closes admission. -/
theorem capacitiesHold : Obligations.CapacitiesHold := fun _ _ sound closed bounded h =>
  (step_keeps_of_atoms (P := fun s => s.MapSound ∧ s.AdmissionSound ∧ s.Bounded) (fun _ _ _ => id)
    (fun _ _ turn ⟨sound, closed, bounded⟩ => ⟨turn.keeps_mapSound sound, turn.keeps_admissionSound closed,
      turn.keeps_bounded sound closed bounded⟩)
    (fun _ _ _ atom ⟨sound, closed, bounded⟩ => ⟨atom.keeps_mapSound sound,
      atom.keeps_admissionSound closed, atom.keeps_bounded bounded⟩)
    h ⟨sound, closed, bounded⟩).2.2

end Sys2Proof.Machine

namespace Sys2Proof.Machine

/-! ### Claims and the placements they serve (R39, R70, R74, R76, R92) -/

/-- The tags of the claims that are not abandoned. -/
def keptTags (l : List OwnClaim) : List Octet := (l.filter fun c => !c.abandoned).map OwnClaim.tag

/-- The tags of the placements that are not terminal. -/
def liveTags (q : List Placement) : List Octet := (q.filter fun p => !p.state.terminal).map Placement.tag

/-- What a list of own claims keeps by itself. -/
structure ClaimList (l : List OwnClaim) : Prop where
  numbers : (l.map OwnClaim.number).Nodup
  distinct : (keptTags l).Nodup
  unsent : ∀ c ∈ l, c.lastSend = none → c.state = .tentative ∧ c.settleDue = none ∧ c.decision = .notDue
  lapsed : ∀ c ∈ l, c.lapsed = true → c.state ≠ .tentative ∧ c.abandoned = false

/-- Each claim that is not abandoned serves a placement of the queue. -/
def Served (l : List OwnClaim) (q : List Placement) : Prop :=
  ∀ c ∈ l, c.abandoned = false → ∃ p ∈ q, c.serves p

/-- A transfer that shows a placement terminal names a terminal record. -/
def State.TransferNamed (s : State) : Prop :=
  ∀ i frame, s.port.transfer = some { item := .placement i true, frame := frame } →
    ∃ p, s.admission.queue[i]? = some p ∧ p.state.terminal = true

theorem OwnClaim.core_serves (c : OwnClaim) (p : Placement) : c.core.serves p ↔ c.serves p := Iff.rfl

theorem State.claimsServe_iff {s : State} (numbers : s.numbers.Nodup) : s.ClaimsServe ↔
    ClaimList s.cores ∧ (liveTags s.admission.queue).Nodup ∧ Served s.cores s.admission.queue
      ∧ s.TransferNamed := by
  have tags : keptTags s.cores = (s.claims.own.filter fun c => !c.abandoned).map OwnClaim.tag := by
    simp only [keptTags, State.cores, List.filter_map, List.map_map]
    rfl
  constructor
  · rintro ⟨served, live, distinct, unsent, lapsed, named⟩
    refine ⟨⟨numbers, tags ▸ distinct, ?_, ?_⟩, live, ?_, named⟩
    · exact List.forall_mem_map.mpr unsent
    · exact List.forall_mem_map.mpr lapsed
    · exact List.forall_mem_map.mpr served
  · rintro ⟨⟨-, distinct, unsent, lapsed⟩, live, served, named⟩
    exact ⟨List.forall_mem_map.mp served, live, tags ▸ distinct, List.forall_mem_map.mp unsent,
      List.forall_mem_map.mp lapsed, named⟩

/-- Live placements of one tag are one. -/
theorem eq_of_liveTags {q : List Placement} (live : (liveTags q).Nodup) {p x : Placement} (hp : p ∈ q)
    (hx : x ∈ q) (lp : p.state.terminal = false) (lx : x.state.terminal = false) (tag : x.tag = p.tag) :
    x = p :=
  List.inj_on_of_nodup_map live (List.mem_filter.mpr ⟨hx, by simp [lx]⟩)
    (List.mem_filter.mpr ⟨hp, by simp [lp]⟩) tag

/-- Claims of one tag that are not abandoned are one. -/
theorem ClaimList.eq_of_tag {l : List OwnClaim} (list : ClaimList l) {c d : OwnClaim} (hc : c ∈ l)
    (hd : d ∈ l) (kc : c.abandoned = false) (kd : d.abandoned = false) (tag : d.tag = c.tag) : d = c :=
  List.inj_on_of_nodup_map list.distinct (List.mem_filter.mpr ⟨hd, by simp [kd]⟩)
    (List.mem_filter.mpr ⟨hc, by simp [kc]⟩) tag

theorem ClaimList.eq_of_number {l : List OwnClaim} (list : ClaimList l) {c d : OwnClaim} (hc : c ∈ l)
    (hd : d ∈ l) (number : d.number = c.number) : d = c :=
  List.inj_on_of_nodup_map list.numbers hd hc number

/-- A placement that a claim serves is not terminal. -/
theorem OwnClaim.live_of_serves {c : OwnClaim} {p : Placement} (serves : c.serves p) :
    p.state.terminal = false ∧ p.state.waits = false := by
  obtain ⟨-, state⟩ := serves
  cases hp : p.state <;> cases hc : c.state <;>
    simp [hp, hc, PlacementState.announced, PlacementState.terminal, PlacementState.waits] at state ⊢

theorem OwnClaim.tentative_of_serves {c : OwnClaim} {p : Placement} (serves : c.serves p)
    (announced : p.state.announced = true) : c.state = .tentative := by
  obtain ⟨-, state⟩ := serves
  cases hc : c.state
  · rfl
  all_goals
    rw [hc] at state
    simp only at state
    rw [state] at announced
    cases announced

theorem ClaimList.sub {l m : List OwnClaim} (list : ClaimList l) (part : m.Sublist l) : ClaimList m where
  numbers := list.numbers.sublist (part.map _)
  distinct := list.distinct.sublist ((part.filter _).map _)
  unsent c member := list.unsent c (part.subset member)
  lapsed c member := list.lapsed c (part.subset member)

/-- The claim of a number changed. -/
def mapNumber (n : Octet) (f : OwnClaim → OwnClaim) (l : List OwnClaim) : List OwnClaim :=
  l.map fun c => if c.number = n then f c else c

/-- A claim after one of the list has changed: that one, or another as it was. -/
theorem ClaimList.mem_mapNumber {l : List OwnClaim} (list : ClaimList l) {c : OwnClaim} (held : c ∈ l)
    {f : OwnClaim → OwnClaim} {d : OwnClaim} (member : d ∈ mapNumber c.number f l) :
    d = f c ∨ d ∈ l ∧ d ≠ c := by
  obtain ⟨x, hx, rfl⟩ := List.mem_map.mp member
  split
  · next same => exact .inl (by rw [list.eq_of_number held hx same])
  · next other => exact .inr ⟨hx, fun same => other (by rw [same])⟩

/-- A claim changed, its number, tag and abandoned mark kept. -/
theorem ClaimList.mapNumber {l : List OwnClaim} (list : ClaimList l) {c : OwnClaim} (held : c ∈ l)
    {f : OwnClaim → OwnClaim}
    (same : ∀ d : OwnClaim, (f d).number = d.number ∧ (f d).tag = d.tag ∧ (f d).abandoned = d.abandoned)
    (unsent : (f c).lastSend = none →
      (f c).state = .tentative ∧ (f c).settleDue = none ∧ (f c).decision = .notDue)
    (lapsed : (f c).lapsed = true → (f c).state ≠ .tentative ∧ (f c).abandoned = false) :
    ClaimList (Machine.mapNumber c.number f l) where
  numbers := by
    unfold Machine.mapNumber
    rw [numbers_mapNumber _ fun d => (same d).1]
    exact list.numbers
  distinct := by
    have kept : keptTags (Machine.mapNumber c.number f l) = keptTags l := by
      unfold keptTags Machine.mapNumber
      rw [List.filter_map, List.map_map]
      have abandoned : (fun c => !c.abandoned) ∘ (fun d => if d.number = c.number then f d else d)
          = fun d : OwnClaim => !d.abandoned := by
        funext d
        simp only [Function.comp_apply]
        split <;> simp [(same d).2.2]
      rw [abandoned]
      refine List.map_congr_left fun d _ => ?_
      simp only [Function.comp_apply]
      split <;> simp [(same d).2.1]
    exact kept ▸ list.distinct
  unsent d member := by
    rcases list.mem_mapNumber held member with rfl | ⟨hd, -⟩
    · exact unsent
    · exact list.unsent d hd
  lapsed d member := by
    rcases list.mem_mapNumber held member with rfl | ⟨hd, -⟩
    · exact lapsed
    · exact list.lapsed d hd

/-- A placement changed to one of its tag: the claims of other tags serve on. -/
theorem Served.change {l m : List OwnClaim} {before after : List Placement} {p x : Placement}
    (served : Served l (before ++ p :: after))
    (follow : ∀ c ∈ m, c.abandoned = false → (c ∈ l ∧ c.tag ≠ p.tag) ∨ c.serves x) :
    Served m (before ++ x :: after) := by
  intro c member kept
  rcases follow c member kept with ⟨held, other⟩ | serves
  · obtain ⟨y, hy, serves⟩ := served c held kept
    refine ⟨y, (mem_of_change (p := x) hy).resolve_left ?_, serves⟩
    rintro rfl
    exact other serves.1.symm
  · exact ⟨x, by simp, serves⟩

theorem liveTags_change {before after : List Placement} {p x : Placement} (tag : x.tag = p.tag)
    (live : p.state.terminal = false) (nodup : (liveTags (before ++ p :: after)).Nodup) :
    (liveTags (before ++ x :: after)).Nodup := by
  refine nodup.sublist ?_
  unfold liveTags
  rw [List.filter_append, List.filter_append, List.map_append, List.map_append]
  refine (List.Sublist.refl _).append ?_
  rw [List.filter_cons_of_pos (a := p) (by simp [live]), List.map_cons]
  by_cases terminal : x.state.terminal = true
  · rw [List.filter_cons_of_neg (by simp [terminal])]
    exact List.sublist_cons_self _ _
  · rw [List.filter_cons_of_pos (by simp [terminal]), List.map_cons, tag]

/-! ### Claims abandoned -/

theorem keptTags_orphan (n : Octet) (l : List OwnClaim) :
    keptTags (mapNumber n OwnClaim.orphan l) = keptTags (l.filter fun c => c.number != n) := by
  induction l with
  | nil => rfl
  | cons c l ih =>
    unfold keptTags mapNumber at ih ⊢
    by_cases same : c.number = n
    · simpa [same, OwnClaim.orphan] using ih
    · cases kept : c.abandoned <;> simpa [same, kept] using ih

/-- A list after a claim of it has been abandoned: no claim of its tag is left that is not. -/
theorem ClaimList.abandon {l m : List OwnClaim} (list : ClaimList l) {c : OwnClaim} (held : c ∈ l)
    (kept : c.abandoned = false) (tentative : c.state = .tentative)
    (left : m = (l.filter fun d => d.number != c.number) ∨ m = Machine.mapNumber c.number OwnClaim.orphan l) :
    ClaimList m ∧ ∀ d ∈ m, d.abandoned = false → d ∈ l ∧ d.tag ≠ c.tag := by
  have other {d : OwnClaim} (hd : d ∈ l) (kd : d.abandoned = false) (number : d.number ≠ c.number) :
      d.tag ≠ c.tag := fun tag => number (by rw [list.eq_of_tag held hd kept kd tag])
  rcases left with rfl | rfl
  · refine ⟨list.sub List.filter_sublist, fun d member kd => ?_⟩
    obtain ⟨hd, number⟩ := List.mem_filter.mp member
    exact ⟨hd, other hd kd (by simpa using number)⟩
  · refine ⟨⟨?_, ?_, fun d member => ?_, fun d member => ?_⟩, fun d member kd => ?_⟩
    · unfold Machine.mapNumber
      rw [numbers_mapNumber (f := OwnClaim.orphan) _ fun _ => rfl]
      exact list.numbers
    · rw [keptTags_orphan]
      exact (list.sub List.filter_sublist).distinct
    · rcases list.mem_mapNumber held member with rfl | ⟨hd, -⟩
      · exact fun unsent => ⟨tentative, rfl, rfl⟩
      · exact list.unsent d hd
    · rcases list.mem_mapNumber held member with rfl | ⟨hd, -⟩
      · exact fun lapsed => absurd tentative (list.lapsed c held lapsed).1
      · exact list.lapsed d hd
    · rcases list.mem_mapNumber held member with rfl | ⟨hd, different⟩
      · cases kd
      · exact ⟨hd, other hd kd fun number => different (list.eq_of_number held hd number)⟩

theorem State.claimOf_mem {s : State} {tag : Octet} {c : OwnClaim} (found : s.claimOf tag = some c) :
    c.core ∈ s.cores ∧ c.tag = tag ∧ c.abandoned = false := by
  have holds := List.find?_some found
  simp only [Bool.and_eq_true, beq_iff_eq, Bool.not_eq_true'] at holds
  exact ⟨List.mem_map_of_mem (List.mem_of_find?_eq_some found), holds⟩

theorem State.claimOf_none {s : State} {tag : Octet} (absent : s.claimOf tag = none) {c : OwnClaim}
    (held : c ∈ s.cores) (kept : c.abandoned = false) : c.tag ≠ tag := by
  obtain ⟨d, hd, rfl⟩ := List.mem_map.mp held
  simp only [State.claimOf, List.find?_eq_none] at absent
  intro tagged
  have := absent d hd
  rw [show d.tag = tag from tagged, show d.abandoned = false from kept] at this
  simp at this

/-- A tag abandoned: no claim of it is left that is not abandoned. -/
theorem State.abandonTag_claims {s : State} (list : ClaimList s.cores) {tag : Octet}
    (tentative : ∀ c ∈ s.cores, c.abandoned = false → c.tag = tag → c.state = .tentative) :
    ClaimList (s.abandonTag tag).cores
      ∧ ∀ d ∈ (s.abandonTag tag).cores, d.abandoned = false → d ∈ s.cores ∧ d.tag ≠ tag := by
  rcases s.cores_abandonTag tag with ⟨absent, same⟩ | ⟨c, found, left⟩
  · rw [same]
    exact ⟨list, fun d hd kept => ⟨hd, State.claimOf_none absent hd kept⟩⟩
  · obtain ⟨held, tagged, kept⟩ := State.claimOf_mem found
    have dismissed := list.abandon held kept (tentative _ held kept tagged) left
    exact tagged ▸ dismissed

/-- A tag cleared: no claim of it is left that is not abandoned (R63). -/
theorem State.clearClaim_claims {s : State} (list : ClaimList s.cores) (tag : Octet) :
    ClaimList (s.clearClaim tag).cores
      ∧ ∀ d ∈ (s.clearClaim tag).cores, d.abandoned = false → d ∈ s.cores ∧ d.tag ≠ tag := by
  rcases s.cores_clearClaim tag with ⟨absent, same⟩ | ⟨c, found, left⟩
  · rw [same]
    exact ⟨list, fun d hd kept => ⟨hd, State.claimOf_none absent hd kept⟩⟩
  · obtain ⟨held, rfl, kept⟩ := State.claimOf_mem found
    rw [left]
    refine ⟨list.sub List.filter_sublist, fun d member kd => ?_⟩
    obtain ⟨hd, number⟩ := List.mem_filter.mp member
    refine ⟨hd, fun tag => ?_⟩
    rw [list.eq_of_tag held hd kept kd tag] at number
    simp [OwnClaim.core] at number

/-! ### What the claims serve, kept by each move -/

/-- The own claims are in order, the live placements' tags distinct, and each claim serves its
placement. -/
structure Serving (l : List OwnClaim) (q : List Placement) : Prop where
  list : ClaimList l
  live : (liveTags q).Nodup
  served : Served l q

/-- A placement and its claims change together. -/
theorem Serving.change {l m : List OwnClaim} {before after : List Placement} {p x : Placement}
    (serving : Serving l (before ++ p :: after)) (tag : x.tag = p.tag) (live : p.state.terminal = false)
    (list : ClaimList m)
    (follow : ∀ c ∈ m, c.abandoned = false → (c ∈ l ∧ c.tag ≠ p.tag) ∨ c.serves x) :
    Serving m (before ++ x :: after) :=
  ⟨list, liveTags_change tag live serving.live, serving.served.change follow⟩

theorem Serving.sub {l m : List OwnClaim} {q : List Placement} (serving : Serving l q) (part : m.Sublist l) :
    Serving m q :=
  ⟨serving.list.sub part, serving.live, fun c member => serving.served c (part.subset member)⟩

/-- The placement that a claim of its tag serves. -/
theorem Serving.serves {l : List OwnClaim} {q : List Placement} (serving : Serving l q) {c : OwnClaim}
    {p : Placement} (held : c ∈ l) (kept : c.abandoned = false) (place : p ∈ q)
    (live : p.state.terminal = false) (tag : c.tag = p.tag) : c.serves p := by
  obtain ⟨y, hy, serves⟩ := serving.served c held kept
  have tagged : y.tag = p.tag := serves.1.trans tag
  rwa [eq_of_liveTags serving.live place hy live (OwnClaim.live_of_serves serves).1 tagged] at serves

/-- Claims of another tag than a claim of the list, which keep as they are. -/
theorem ClaimList.other_tag {l : List OwnClaim} (list : ClaimList l) {c d : OwnClaim} (hc : c ∈ l)
    (kc : c.abandoned = false) (hd : d ∈ l) (kd : d.abandoned = false) (different : d ≠ c) :
    d.tag ≠ c.tag := fun tag => different (list.eq_of_tag hc hd kc kd tag)

theorem served_of_core {l : List OwnClaim} {q r : List Placement}
    (core : r.map Placement.core = q.map Placement.core) (served : Served l q) : Served l r := by
  intro c held kept
  obtain ⟨p, hp, serves⟩ := served c held kept
  obtain ⟨x, hx, same⟩ := mem_of_core core.symm hp
  simp only [Placement.core, Prod.mk.injEq] at same
  obtain ⟨tag, state⟩ := serves
  exact ⟨x, hx, by unfold OwnClaim.serves; rw [same.1, same.2.2]; exact ⟨tag, state⟩⟩

theorem liveTags_of_core {q r : List Placement} (core : r.map Placement.core = q.map Placement.core) :
    liveTags r = liveTags q := by
  have read (l : List Placement) :
      liveTags l = ((l.map Placement.core).filter fun k => !k.2.2.terminal).map Prod.fst := by
    simp only [liveTags, List.filter_map, List.map_map]
    rfl
  rw [read, read, core]

theorem Serving.of_core {l : List OwnClaim} {q r : List Placement} (serving : Serving l q)
    (core : r.map Placement.core = q.map Placement.core) : Serving l r :=
  ⟨serving.list, liveTags_of_core core ▸ serving.live, served_of_core core serving.served⟩

/-- A claim changed in what its placement does not see. -/
theorem Serving.mapNumber {l : List OwnClaim} {q : List Placement} (serving : Serving l q) {c : OwnClaim}
    (held : c ∈ l) {f : OwnClaim → OwnClaim} (list : ClaimList (Machine.mapNumber c.number f l))
    (serves : ∀ p ∈ q, c.abandoned = false → c.serves p → (f c).serves p)
    (marked : (f c).abandoned = c.abandoned) : Serving (Machine.mapNumber c.number f l) q := by
  refine ⟨list, serving.live, fun d member kept => ?_⟩
  rcases serving.list.mem_mapNumber held member with rfl | ⟨hd, -⟩
  · rw [marked] at kept
    obtain ⟨p, hp, was⟩ := serving.served c held kept
    exact ⟨p, hp, serves p hp kept was⟩
  · exact serving.served d hd kept

end Sys2Proof.Machine

namespace Sys2Proof.Machine

/-- The part's claims serve its placements. -/
def State.Serving (s : State) : Prop := Machine.Serving s.cores s.admission.queue

theorem State.Serving.of_same {s t : State} (serving : s.Serving) (cores : t.cores = s.cores)
    (queue : t.admission.queue.map Placement.core = s.admission.queue.map Placement.core) : t.Serving := by
  have kept := Machine.Serving.of_core serving queue
  unfold State.Serving
  rwa [cores]

theorem PlacementState.live_of_announced {x : PlacementState} (announced : x.announced = true) :
    x.terminal = false := by
  cases x <;> first | rfl | cases announced

theorem PlacementState.live_of_waits {x : PlacementState} (head : x.waits = true) :
    x.terminal = false ∧ x.announced = false ∧ x.inCells = false := by
  cases x <;> first | exact ⟨rfl, rfl, rfl⟩ | cases head

theorem PlacementState.live_of_inCells {x : PlacementState} (held : x.inCells = true) :
    x.terminal = false := by
  cases x <;> first | rfl | cases held

/-- The states through which a placement moves start live. -/
theorem StateMove.live {x y : PlacementState} (h : StateMove x y) : x.terminal = false := by
  cases h with
  | waits head => exact (PlacementState.live_of_waits head).1
  | retracts announced => exact PlacementState.live_of_announced announced
  | sends => rfl
  | seats => rfl
  | clears held => exact PlacementState.live_of_inCells held

/-- A placement changed after a change of the claims. -/
theorem State.Serving.mapPlacement {s u : State} (serving : s.Serving) (same : u.admission = s.admission)
    {i : Nat} {p : Placement} (place : s.admission.queue[i]? = some p) (live : p.state.terminal = false)
    {f : Placement → Placement} (tag : (f p).tag = p.tag) (list : ClaimList u.cores)
    (follow : ∀ c ∈ u.cores, c.abandoned = false → (c ∈ s.cores ∧ c.tag ≠ p.tag)
      ∨ c.serves (p.changedTo (f p))) : (u.mapPlacement i f).Serving := by
  obtain ⟨before, after, queue, rfl⟩ := List.split_of_getElem? place
  unfold State.Serving at serving ⊢
  rw [State.mapPlacement_queue same queue]
  rw [queue] at serving
  exact serving.change tag live list follow

/-- An announced placement retracted, its claim abandoned (R52). -/
theorem State.Serving.retract {s : State} (serving : s.Serving) {i : Nat} {p : Placement}
    (place : s.admission.queue[i]? = some p) (announced : p.state.announced = true)
    {f : Placement → Placement} (tag : (f p).tag = p.tag) :
    ((s.abandonTag p.tag).mapPlacement i f).Serving := by
  have live := PlacementState.live_of_announced announced
  have member := List.mem_of_getElem? place
  obtain ⟨list, left⟩ := State.abandonTag_claims serving.list (tag := p.tag) fun c held kept tagged =>
    OwnClaim.tentative_of_serves (Machine.Serving.serves serving held kept member live tagged) announced
  exact serving.mapPlacement (s.abandonTag_frame p.tag .admission (by decide)) place live tag list
    fun c held kept => .inl (left c held kept)

theorem State.Serving.yieldAnnounced {s : State} (serving : s.Serving) : s.yieldAnnounced.Serving := by
  unfold State.yieldAnnounced
  split
  · exact serving
  · next i found =>
    split
    · exact serving
    · next p place => exact serving.retract place (State.announced_of_announcedIndex found place) rfl

theorem State.Serving.failTaken {s : State} (serving : s.Serving) : s.failTaken.Serving := by
  unfold State.failTaken
  split
  · exact serving
  · next i found =>
    split
    · exact serving
    · next p place =>
      have announced := State.announced_of_announcedIndex found place
      split
      · exact serving.retract place announced rfl
      · split
        · exact serving.retract place announced rfl
        · exact serving

/-- A claim found by its number. -/
theorem State.ownClaim_mem {s : State} {n : Octet} {c : OwnClaim} (found : s.ownClaim n = some c) :
    c.core ∈ s.cores ∧ c.number = n :=
  ⟨List.mem_map_of_mem (List.mem_of_find?_eq_some found), ownClaim_number found⟩

theorem State.Serving.mapClaim {s : State} (serving : s.Serving) {c : OwnClaim} (held : c.core ∈ s.cores)
    {f : OwnClaim → OwnClaim} (reads : ∀ d, (f d).core = f d.core)
    (list : ClaimList (mapNumber c.number f s.cores))
    (serves : ∀ p ∈ s.admission.queue, c.abandoned = false → c.serves p → (f c.core).serves p)
    (marked : (f c.core).abandoned = c.abandoned) : (s.mapClaim c.number f).Serving := by
  have cores : (s.mapClaim c.number f).cores = mapNumber c.number f s.cores := s.cores_mapClaim _ reads
  unfold State.Serving
  rw [cores]
  exact Machine.Serving.mapNumber serving held list serves marked

theorem State.mapTag_cores (s : State) (tag : Octet) (x : PlacementState) (f : Placement → Placement) :
    (s.mapTag tag x f).cores = s.cores := State.cores_of_frame (s.mapTag_frame tag x f) (by decide)

theorem OwnClaim.told_core (position : Nat) (c : OwnClaim) : (c.told position).core = c.core.told position := by
  unfold OwnClaim.told
  show (if c.decision = .waitingFor position then _ else c).core
    = if c.decision = .waitingFor position then _ else c.core
  split <;> rfl

/-- A claim told that a frame is finished keeps what its placement sees. -/
theorem OwnClaim.told_kept (position : Nat) (c : OwnClaim) :
    (c.told position).number = c.number ∧ (c.told position).tag = c.tag
      ∧ (c.told position).state = c.state ∧ (c.told position).abandoned = c.abandoned
      ∧ (c.told position).lastSend = c.lastSend ∧ (c.told position).settleDue = c.settleDue
      ∧ (c.told position).lapsed = c.lapsed
      ∧ ((c.told position).decision = .notDue ↔ c.decision = .notDue) := by
  unfold OwnClaim.told
  split
  · next waiting => simp [waiting]
  · simp

theorem ClaimList.told {l : List OwnClaim} (list : ClaimList l) (position : Nat) :
    ClaimList (l.map (OwnClaim.told position)) where
  numbers := by
    rw [numbers_map fun c => (c.told_kept position).1]
    exact list.numbers
  distinct := by
    have kept : keptTags (l.map (OwnClaim.told position)) = keptTags l := by
      unfold keptTags
      rw [List.filter_map, List.map_map]
      have abandoned : (fun c => !c.abandoned) ∘ OwnClaim.told position = fun c : OwnClaim => !c.abandoned := by
        funext c
        obtain ⟨-, -, -, same, -⟩ := c.told_kept position
        simp [same]
      rw [abandoned]
      exact List.map_congr_left fun c _ => (c.told_kept position).2.1
    exact kept ▸ list.distinct
  unsent d member := by
    obtain ⟨c, hc, rfl⟩ := List.mem_map.mp member
    obtain ⟨-, -, state, -, sent, due, -, decision⟩ := c.told_kept position
    rw [state, sent, due, decision]
    exact list.unsent c hc
  lapsed d member := by
    obtain ⟨c, hc, rfl⟩ := List.mem_map.mp member
    obtain ⟨-, -, state, abandoned, -, -, lapsed, -⟩ := c.told_kept position
    rw [state, abandoned, lapsed]
    exact list.lapsed c hc

theorem State.Serving.told {s : State} (serving : s.Serving) (position : Nat) :
    (s.withOwn (s.claims.own.map (OwnClaim.told position))).Serving := by
  have cores : (s.withOwn (s.claims.own.map (OwnClaim.told position))).cores
      = s.cores.map (OwnClaim.told position) := by
    simp only [State.cores, State.withOwn, List.map_map]
    exact List.map_congr_left fun c _ => c.told_core position
  unfold State.Serving
  rw [cores]
  refine ⟨serving.list.told position, serving.live, fun d member kept => ?_⟩
  obtain ⟨c, hc, rfl⟩ := List.mem_map.mp member
  obtain ⟨-, tag, state, abandoned, -, due, -, decision⟩ := c.told_kept position
  obtain ⟨p, hp, tagged, follows⟩ := serving.served c hc (abandoned ▸ kept)
  refine ⟨p, hp, tagged.trans tag.symm, ?_⟩
  rw [state, due, ne_eq (c.told position).decision, decision]
  exact follows

/-- The decision of a claim that settles is deferred (R86). -/
theorem State.Serving.defers {s : State} (serving : s.Serving) {c : OwnClaim} (member : c ∈ s.claims.own)
    (settles : c.settles s.now = true) (position : Nat) :
    (s.mapClaim c.number fun c => { c with decision := .waitingFor position }).Serving := by
  have held : c.core ∈ s.cores := List.mem_map_of_mem member
  have due := OwnClaim.settleDue_of_settles settles
  refine serving.mapClaim held (fun _ => rfl) (serving.list.mapNumber held (fun _ => ⟨rfl, rfl, rfl⟩)
    (fun unsent => absurd (serving.list.unsent _ held unsent).2.1 due) (serving.list.lapsed c.core held))
    (fun p _ _ serves => ?_) rfl
  obtain ⟨tentative, -⟩ := OwnClaim.settles_iff.mp settles
  obtain ⟨tag, state⟩ := serves
  refine ⟨tag, ?_⟩
  simp only [OwnClaim.core, tentative] at state ⊢
  exact ⟨state.1, fun _ => state.2 (.inl due)⟩

theorem State.Serving.lapses {s : State} (serving : s.Serving) {n : Octet} (ready : s.lapseReady n = true) :
    (s.mapClaim n fun c => { c with lapsed := true }).Serving := by
  simp only [State.lapseReady, Bool.and_eq_true, Option.any_eq_true] at ready
  obtain ⟨-, c, found, lapses⟩ := ready
  obtain ⟨held, rfl⟩ := State.ownClaim_mem found
  simp only [OwnClaim.lapses, Bool.and_eq_true, bne_iff_ne, Bool.not_eq_true'] at lapses
  obtain ⟨⟨⟨firm, kept⟩, -⟩, -⟩ := lapses
  exact serving.mapClaim held (fun _ => rfl) (serving.list.mapNumber held (fun _ => ⟨rfl, rfl, rfl⟩)
    (serving.list.unsent c.core held) (fun _ => ⟨firm, kept⟩)) (fun _ _ _ => id) rfl

/-- A claim and the placement of its tag change together. -/
theorem State.Serving.mapBoth {s u : State} (serving : s.Serving) {c : OwnClaim} (held : c.core ∈ s.cores)
    (kept : c.abandoned = false) (same : u.admission = s.admission) {f : OwnClaim → OwnClaim}
    (cores : u.cores = mapNumber c.number f s.cores) (list : ClaimList u.cores) {i : Nat} {p : Placement}
    (place : s.admission.queue[i]? = some p) (live : p.state.terminal = false) (tagged : p.tag = c.tag)
    {g : Placement → Placement} (tag : (g p).tag = p.tag) (serves : (f c.core).serves (p.changedTo (g p))) :
    (u.mapPlacement i g).Serving := by
  refine serving.mapPlacement same place live tag list fun d member kd => ?_
  rw [cores] at member
  rcases serving.list.mem_mapNumber held member with rfl | ⟨hd, different⟩
  · exact .inr serves
  · exact .inl ⟨hd, tagged ▸ ClaimList.other_tag (c := c.core) serving.list held kept hd kd different⟩

/-- A CLAIM sent: the first send makes the placement TENTATIVE (R51, R74). -/
theorem State.Serving.sends {s : State} (serving : s.Serving) {c : OwnClaim}
    (found : s.ownClaim c.number = some c) (kept : c.abandoned = false) (due : LocalTime) (settle : Nat) :
    (if c.lastSend.isNone then
      (s.mapClaim c.number fun c => c.sentAt due settle).mapTag c.tag .announcing fun p =>
        { p with state := .tentative }
    else s.mapClaim c.number fun c => c.sentAt due settle).Serving := by
  obtain ⟨held, -⟩ := State.ownClaim_mem found
  have cores : (s.mapClaim c.number fun c => c.sentAt due settle).cores
      = mapNumber c.number (fun c => c.sentAt due settle) s.cores := s.cores_mapClaim _ fun _ => rfl
  have list : ClaimList (mapNumber c.number (fun c => c.sentAt due settle) s.cores) :=
    serving.list.mapNumber held (fun _ => ⟨rfl, rfl, rfl⟩) nofun nofun
  split
  · next first =>
    have unsent : c.lastSend = none := by simpa using first
    obtain ⟨tentative, -, -⟩ := serving.list.unsent c.core held unsent
    rcases State.mapTag_cases (s := s) (u := s.mapClaim c.number fun c => c.sentAt due settle) rfl c.tag
      .announcing (fun p => { p with state := .tentative }) with
      ⟨absent, unchanged⟩ | ⟨i, p, -, place, tagged, state, changed⟩
    · rw [unchanged]
      refine serving.mapClaim held (fun _ => rfl) list (fun p hp _ serves => ?_) rfl
      obtain ⟨tag, state⟩ := serves
      refine ⟨tag, ?_⟩
      rw [show c.state = .tentative from tentative] at state
      have waiting : p.state ≠ .announcing := fun announcing => by
        simp only [State.tagIndex, List.findIdx?_eq_none_iff] at absent
        have := absent p hp
        simp [tag, announcing] at this
      have sent : p.state = .tentative := by
        cases hx : p.state <;> simp [hx, PlacementState.announced] at state waiting ⊢
      simp only [OwnClaim.sentAt]
      rw [tentative]
      exact ⟨state.1, fun _ => sent⟩
    · rw [changed]
      refine serving.mapBoth (u := s.mapClaim c.number fun c => c.sentAt due settle) held kept rfl cores
        (cores.symm ▸ list) place (by rw [state]; rfl) tagged rfl ?_
      refine ⟨tagged, ?_⟩
      simp only [OwnClaim.sentAt]
      rw [tentative]
      exact ⟨rfl, fun _ => rfl⟩
  · next again =>
    refine serving.mapClaim held (fun _ => rfl) list (fun p hp _ serves => ?_) rfl
    obtain ⟨tag, state⟩ := serves
    refine ⟨tag, ?_⟩
    have stands : (c.core.sentAt due settle).settleDue = c.settleDue := if_neg again
    rw [stands]
    exact state

/-- A claim deleted; other claims are of other tags. -/
theorem State.deleteClaim_left {s : State} (list : ClaimList s.cores) {c : OwnClaim}
    (held : c.core ∈ s.cores) (kept : c.abandoned = false) :
    ClaimList (s.deleteClaim c.number).cores
      ∧ ∀ d ∈ (s.deleteClaim c.number).cores, d.abandoned = false → d ∈ s.cores ∧ d.tag ≠ c.tag := by
  rw [State.cores_deleteClaim]
  refine ⟨list.sub List.filter_sublist, fun d member kd => ?_⟩
  obtain ⟨hd, number⟩ := List.mem_filter.mp member
  refine ⟨hd, ClaimList.other_tag (c := c.core) list held kept hd kd fun same => ?_⟩
  rw [same] at number
  simp [OwnClaim.core] at number

/-- A claim dropped: its placement waits again (R110). -/
theorem State.Serving.drops {s : State} (serving : s.Serving) {c : OwnClaim}
    (found : s.ownClaim c.number = some c) (kept : c.abandoned = false) (holdoff : LocalTime) :
    ((s.deleteClaim c.number).mapTag c.tag .announcing fun p => p.linkFail holdoff).Serving := by
  obtain ⟨held, -⟩ := State.ownClaim_mem found
  obtain ⟨list, left⟩ := State.deleteClaim_left serving.list held kept
  rcases State.mapTag_cases (s := s) (u := s.deleteClaim c.number) rfl c.tag .announcing
    (fun p => p.linkFail holdoff) with ⟨-, unchanged⟩ | ⟨i, p, -, place, tagged, state, changed⟩
  · rw [unchanged]
    exact ⟨list, serving.live, fun d member kd => serving.served d (left d member kd).1 kd⟩
  · rw [changed]
    exact serving.mapPlacement (u := s.deleteClaim c.number) (f := fun p => p.linkFail holdoff) rfl place
      (by rw [state]; rfl) rfl list fun d member kd => .inl (tagged ▸ left d member kd)

/-- The state in which a head that announces changes: its claim is made and its CLAIM record queued. -/
def State.withAnnounced (s : State) (p : Placement) : State :=
  ({ s.serveOwed with
      claims :=
        { s.serveOwed.claims with
          own := s.serveOwed.claims.own ++ [newClaim s.claims.nextNumber p (s.precedenceOf p)]
          counter := s.claims.nextNumber + 1 } } : State).pushUrgent (.claim s.claims.nextNumber)

theorem State.announceHead_eq (s : State) (i : Nat) (p : Placement) :
    s.announceHead i p = (s.withAnnounced p).mapPlacement i Placement.announce := rfl

/-- A head that announces gets a claim of its tag (R51). -/
theorem State.Serving.announces {s : State} (serving : s.Serving) {i : Nat} {p : Placement}
    (numbers : (s.announceHead i p).numbers.Nodup) (place : s.admission.queue[i]? = some p)
    (head : p.state.waits = true) : (s.announceHead i p).Serving := by
  obtain ⟨live, -, -⟩ := PlacementState.live_of_waits head
  have member := List.mem_of_getElem? place
  have other : ∀ c ∈ s.cores, c.abandoned = false → c.tag ≠ p.tag := by
    intro c held kept tag
    have serves := Machine.Serving.serves serving held kept member live tag
    simp [(OwnClaim.live_of_serves serves).2] at head
  have cores := s.cores_announceHead i p
  have list : ClaimList (s.announceHead i p).cores := by
    refine ⟨numbers, ?_, ?_, ?_⟩
    · have tags : keptTags (s.announceHead i p).cores = keptTags s.cores ++ [p.tag] := by
        rw [cores]
        simp [keptTags, List.filter_append, OwnClaim.core, newClaim]
      rw [tags]
      refine List.nodup_append.mpr ⟨serving.list.distinct, List.nodup_singleton _, ?_⟩
      intro x hx y hy
      obtain ⟨c, hc, rfl⟩ := List.mem_map.mp hx
      obtain ⟨held, kept⟩ := List.mem_filter.mp hc
      rw [List.mem_singleton.mp hy]
      exact other c held (by simpa using kept)
    all_goals
      intro c member
      rw [cores] at member
      rcases List.mem_append.mp member with held | new
    · exact serving.list.unsent c held
    · obtain rfl := List.mem_singleton.mp new
      exact fun _ => ⟨rfl, rfl, rfl⟩
    · exact serving.list.lapsed c held
    · obtain rfl := List.mem_singleton.mp new
      exact nofun
  have follow : ∀ c ∈ (s.announceHead i p).cores, c.abandoned = false →
      (c ∈ s.cores ∧ c.tag ≠ p.tag) ∨ c.serves (p.changedTo p.announce) := by
    intro c held kept
    rw [cores] at held
    rcases List.mem_append.mp held with held | new
    · exact .inl ⟨held, other c held kept⟩
    · obtain rfl := List.mem_singleton.mp new
      exact .inr ⟨rfl, rfl, fun begun => by simp [OwnClaim.core, newClaim] at begun⟩
  have served : s.serveOwed.admission = s.admission := s.serveOwed_frame .admission (by decide)
  exact serving.mapPlacement (u := s.withAnnounced p) served place live rfl list follow

/-- The tags of announced placements abandoned one after another: none of their claims is left that is not. -/
theorem State.abandonAnnounced_claims {s : State} (list : ClaimList s.cores)
    (tentative : ∀ c ∈ s.cores, c.abandoned = false → c.state = .tentative) :
    ClaimList s.abandonAnnounced.cores
      ∧ ∀ d ∈ s.abandonAnnounced.cores, d.abandoned = false → d ∈ s.cores
        ∧ ∀ p ∈ s.admission.queue, p.state.announced = true → d.tag ≠ p.tag := by
  suffices ∀ (l : List Placement) (t : State), ClaimList t.cores →
      (∀ c ∈ t.cores, c.abandoned = false → c.state = .tentative) →
      let u := l.foldl (fun t p => if p.state.announced then t.abandonTag p.tag else t) t
      ClaimList u.cores ∧ ∀ d ∈ u.cores, d.abandoned = false → d ∈ t.cores
        ∧ ∀ p ∈ l, p.state.announced = true → d.tag ≠ p.tag from this _ s list tentative
  intro l
  induction l with
  | nil => exact fun t list _ => ⟨list, fun d hd _ => ⟨hd, fun _ member => absurd member List.not_mem_nil⟩⟩
  | cons p l ih =>
    intro t list tentative
    by_cases announced : p.state.announced = true
    · obtain ⟨next, left⟩ := State.abandonTag_claims list (tag := p.tag) fun c hc kc _ => tentative c hc kc
      obtain ⟨final, rest⟩ := ih (t.abandonTag p.tag) next fun c hc kc => tentative c (left c hc kc).1 kc
      simp only [List.foldl_cons, announced, if_true]
      refine ⟨final, fun d hd kd => ?_⟩
      obtain ⟨held, others⟩ := rest d hd kd
      obtain ⟨was, tag⟩ := left d held kd
      exact ⟨was, List.forall_mem_cons.mpr ⟨fun _ => tag, others⟩⟩
    · obtain ⟨final, rest⟩ := ih t list tentative
      simp only [List.foldl_cons, announced]
      refine ⟨final, fun d hd kd => ?_⟩
      obtain ⟨held, others⟩ := rest d hd kd
      exact ⟨held, List.forall_mem_cons.mpr ⟨fun h => absurd h announced, others⟩⟩

/-- Every placement failed on leaving: no claim is left that is not abandoned (R64). -/
theorem State.Serving.leaves {s : State} (serving : s.Serving)
    (clear : ∀ p ∈ s.admission.queue, p.state.inCells = false) : s.abandonAnnounced.failAll.Serving := by
  have announced {c : OwnClaim} {p : Placement} (hp : p ∈ s.admission.queue) (serves : c.serves p) :
      p.state.announced = true := by
    have outside := clear p hp
    obtain ⟨-, state⟩ := serves
    cases hc : c.state <;> simp only [hc] at state
    · exact state.1
    all_goals
      rw [state] at outside
      cases outside
  obtain ⟨list, left⟩ := State.abandonAnnounced_claims serving.list fun c hc kc => by
    obtain ⟨p, hp, serves⟩ := serving.served c hc kc
    exact OwnClaim.tentative_of_serves serves (announced hp serves)
  have queue : s.abandonAnnounced.admission = s.admission :=
    s.abandonAnnounced_frame .admission (by decide)
  refine ⟨list, ?_, fun c held kept => ?_⟩
  · have none_live : liveTags s.abandonAnnounced.failAll.admission.queue = [] := by
      unfold liveTags
      rw [List.map_eq_nil_iff, List.filter_eq_nil_iff]
      intro p hp
      simpa using State.failAll_terminal s.abandonAnnounced p hp
    rw [none_live]
    exact List.nodup_nil
  · obtain ⟨was, other⟩ := left c held kept
    obtain ⟨p, hp, serves⟩ := serving.served c was kept
    exact absurd serves.1.symm (other p hp (announced hp serves))

theorem PlacementTurn.keeps_serving {s t : State} (h : PlacementTurn s t) (serving : s.Serving)
    (numbers : t.numbers.Nodup) : t.Serving := by
  cases h with
  | queue q same => exact serving.of_same rfl same
  | own l same => exact serving.of_same same rfl
  | told position => exact serving.told position
  | defers c position member settled => exact serving.defers member settled position
  | lapses n ready => exact serving.lapses ready
  | deletes n =>
    have part : (s.deleteClaim n).cores.Sublist s.cores := by
      rw [State.cores_deleteClaim]; exact List.filter_sublist
    exact Machine.Serving.sub serving part
  | waits i p f place head named =>
    obtain ⟨live, -, -⟩ := PlacementState.live_of_waits head
    refine serving.mapPlacement rfl place live named.1 serving.list fun c held kept => .inl ⟨held, fun tag => ?_⟩
    have serves := Machine.Serving.serves serving held kept (List.mem_of_getElem? place) live tag
    simp [(OwnClaim.live_of_serves serves).2] at head
  | announces i p opened place head => exact serving.announces numbers place head
  | retracts i p f place announced named => exact serving.retract place announced named.1
  | sends c found kept due settle => exact serving.sends found kept due settle
  | drops c found kept holdoff => exact serving.drops found kept holdoff
  | clears i p f place held named =>
    obtain ⟨list, left⟩ := State.clearClaim_claims serving.list p.tag
    exact serving.mapPlacement (s.clearClaim_frame p.tag .admission (by decide)) place
      (PlacementState.live_of_inCells held) named.1 list fun c held kept => .inl (left c held kept)
  | places p _ fresh _ queued =>
    refine ⟨serving.list, ?_, fun c held kept => ?_⟩
    · have tags : liveTags (s.admission.queue ++ [p]) = liveTags s.admission.queue ++ [p.tag] := by
        simp [liveTags, List.filter_append, queued, PlacementState.terminal]
      show (liveTags (s.admission.queue ++ [p])).Nodup
      rw [tags]
      refine List.nodup_append.mpr ⟨serving.live, List.nodup_singleton _, ?_⟩
      intro x hx y hy same
      obtain ⟨q, hq, rfl⟩ := List.mem_map.mp hx
      obtain ⟨member, live⟩ := List.mem_filter.mp hq
      rw [List.mem_singleton.mp hy] at same
      simp only [State.liveTag, List.any_eq_false, Bool.and_eq_true, beq_iff_eq] at fresh
      exact fresh q member ⟨same, live⟩
    · obtain ⟨q, hq, serves⟩ := serving.served c held kept
      exact ⟨q, List.mem_append_left _ hq, serves⟩
  | failsAll clear => exact serving.leaves clear

/-- A placement SEATED with its claim (R62). -/
theorem State.Serving.seats {s : State} (serving : s.Serving) {i : Nat} {p : Placement}
    (place : s.admission.queue[i]? = some p) (firm : p.state = .firm) :
    (((s.ownInsert p.target).seatClaim p.tag).mapPlacement i Placement.seat).Serving := by
  have inserted : (s.ownInsert p.target).cores = s.cores :=
    State.cores_of_frame (s.ownInsert_frame p.target) (by decide)
  have kept_queue : ((s.ownInsert p.target).seatClaim p.tag).admission = s.admission := by
    have seated : ((s.ownInsert p.target).seatClaim p.tag).admission = (s.ownInsert p.target).admission :=
      State.seatClaim_frame _ _ .admission (by decide)
    exact seated.trans (s.ownInsert_frame p.target .admission (by decide))
  have live : p.state.terminal = false := by rw [firm]; rfl
  have member := List.mem_of_getElem? place
  rcases (s.ownInsert p.target).cores_seatClaim p.tag with ⟨absent, same⟩ | ⟨c, found, marked⟩
  · have cores : ((s.ownInsert p.target).seatClaim p.tag).cores = s.cores := by rw [same, inserted]
    refine serving.mapPlacement kept_queue place live rfl (cores.symm ▸ serving.list) fun c held kept => ?_
    rw [cores] at held
    exact .inl ⟨held, State.claimOf_none absent (inserted.symm ▸ held) kept⟩
  · obtain ⟨held, tagged, kept⟩ := State.claimOf_mem found
    rw [inserted] at held marked
    have serves : c.core.serves p := Machine.Serving.serves serving held kept member live tagged
    have list : ClaimList (mapNumber c.number OwnClaim.seated s.cores) := by
      refine serving.list.mapNumber held (fun _ => ⟨rfl, rfl, rfl⟩) (fun unsent => ?_) fun _ => ⟨nofun, kept⟩
      obtain ⟨tentative, -⟩ := serving.list.unsent c.core held unsent
      obtain ⟨-, state⟩ := serves
      rw [tentative] at state
      have announced := state.1
      rw [firm] at announced
      cases announced
    exact serving.mapBoth held kept kept_queue (f := OwnClaim.seated) marked (marked.symm ▸ list) place live
      tagged.symm rfl ⟨tagged.symm, rfl⟩

/-- A placement and its claim made FIRM (R56, R87). -/
theorem State.Serving.firms {s : State} (serving : s.Serving) {c : OwnClaim} (member : c ∈ s.claims.own)
    (tentative : c.state = .tentative) (kept : c.abandoned = false)
    (begun : c.settleDue ≠ none ∨ c.decision ≠ .notDue) : (s.makeFirm c).Serving := by
  have held : c.core ∈ s.cores := List.mem_map_of_mem member
  have same : ((s.mapClaim c.number OwnClaim.firm).requestAnnounce c.number).admission = s.admission :=
    State.requestAnnounce_frame _ _ .admission (by decide)
  have cores : ((s.mapClaim c.number OwnClaim.firm).requestAnnounce c.number).cores
      = mapNumber c.number OwnClaim.firm s.cores :=
    (State.cores_requestAnnounce _ _).trans (s.cores_mapClaim _ fun _ => rfl)
  have list : ClaimList (mapNumber c.number OwnClaim.firm s.cores) := by
    refine serving.list.mapNumber held (fun _ => ⟨rfl, rfl, rfl⟩) (fun unsent => ?_) fun _ => ⟨nofun, kept⟩
    obtain ⟨-, due, decision⟩ := serving.list.unsent c.core held unsent
    exact absurd begun (not_or.mpr ⟨not_not_intro due, not_not_intro decision⟩)
  obtain ⟨q, hq, tagged, state⟩ := serving.served c.core held kept
  rw [show c.core.state = .tentative from tentative] at state
  have sent : q.state = .tentative := state.2 begun
  rcases State.mapTag_cases same c.tag .tentative (fun p => p.firm s.now) with
    ⟨absent, -⟩ | ⟨i, p, -, place, ptag, pstate, changed⟩
  · simp only [State.tagIndex, List.findIdx?_eq_none_iff] at absent
    have := absent q hq
    simp [show q.tag = c.tag from tagged, sent] at this
  · rw [State.makeFirm, changed]
    exact serving.mapBoth held kept same cores (cores.symm ▸ list) place (by rw [pstate]; rfl) ptag rfl
      ⟨ptag, rfl⟩

/-! ### The record that a transfer names (R163) -/

/-- A terminal placement stands where another changes. -/
theorem terminal_beside {before after : List Placement} {p x y : Placement} {i : Nat}
    (live : p.state.terminal = false) (place : (before ++ p :: after)[i]? = some y)
    (terminal : y.state.terminal = true) : (before ++ x :: after)[i]? = some y := by
  have other : i ≠ before.length := by
    rintro rfl
    have : p = y := by simpa using place
    rw [this, terminal] at live
    cases live
  rcases Nat.lt_or_gt_of_ne other with lt | gt
  · rw [List.getElem?_append_left lt] at place ⊢
    exact place
  · obtain ⟨k, rfl⟩ := Nat.exists_eq_add_of_lt gt
    rw [List.getElem?_append_right (by omega)] at place ⊢
    simpa [Nat.add_sub_cancel_left, Nat.add_assoc] using place

/-- A terminal placement stays at its place. -/
theorem QueueMove.terminal_stays {A N : Placement → Prop} {q r : List Placement} (h : QueueMove A N q r) {i : Nat}
    (named : ∃ p, q[i]? = some p ∧ p.state.terminal = true) :
    ∃ p, r[i]? = some p ∧ p.state.terminal = true := by
  obtain ⟨y, place, terminal⟩ := named
  cases h with
  | same core =>
    have cores := congrArg (fun l => l[i]?) core
    simp only [List.getElem?_map, place, Option.map_some, Option.map_eq_some_iff] at cores
    obtain ⟨x, hx, same⟩ := cores
    simp only [Placement.core, Prod.mk.injEq] at same
    exact ⟨x, hx, same.2.2 ▸ terminal⟩
  | @changes before after p x named move => exact ⟨y, terminal_beside move.live place terminal, terminal⟩
  | @announces before after p x named head =>
    exact ⟨y, terminal_beside (PlacementState.live_of_waits head).1 place terminal, terminal⟩
  | @appends q p =>
    obtain ⟨lt, -⟩ := List.getElem?_eq_some_iff.mp place
    exact ⟨y, by rw [List.getElem?_append_left lt]; exact place, terminal⟩
  | failsAll => exact ⟨y, by simp [List.getElem?_map, place, terminal], terminal⟩

/-- The transfer in progress. -/
def State.transfer (s : State) : Option Transfer := s.port.transfer

theorem State.transfer_of_frame {l : List Block} {s t : State} (frame : Frame l s t)
    (untouched : Block.port ∉ l) : t.transfer = s.transfer := by
  have port : t.port = s.port := frame .port untouched
  rw [State.transfer, port, State.transfer]

section
variable (s : State)

theorem State.transfer_causeJoins (c : Cause) : (s.causeJoins c).transfer = s.transfer := by
  unfold State.causeJoins
  split
  · rfl
  · simp only
    split <;> rfl

theorem State.transfer_causeLeaves (c : Cause) : (s.causeLeaves c).transfer = s.transfer := by
  unfold State.causeLeaves
  split <;> rfl

theorem State.transfer_nameConflict (station : Nat) : (s.nameConflict station).transfer = s.transfer := by
  unfold State.nameConflict
  split <;> rfl

theorem State.transfer_stability (new : Stability) :
    ((s.writeStability new).stabilityCause new).transfer = s.transfer := by
  unfold State.stabilityCause
  split
  · exact State.transfer_causeJoins _ _
  · exact State.transfer_causeLeaves _ _

theorem State.transfer_ownInsert (slot : Slot) : (s.ownInsert slot).transfer = s.transfer := by
  unfold State.ownInsert
  simp only
  split
  · rfl
  · rfl
  all_goals
    split
    · rfl
    · split <;> rfl

end

theorem Loses.transfer {s u : State} (h : Loses s u) : u.transfer = s.transfer := by
  cases h with
  | cause c => exact s.transfer_causeJoins c
  | conflict station => exact (State.transfer_nameConflict _ _).trans (s.transfer_causeJoins _)
  | stability new => exact s.transfer_stability new
  | doubt due => rfl

/-- A transfer keeps naming a terminal record, or ends. -/
theorem Turn.keeps_transferNamed {s t : State} (h : Turn s t) (named : s.TransferNamed) :
    t.TransferNamed := by
  have moved (same : t.transfer = s.transfer) : t.TransferNamed := by
    intro i frame shown
    rcases h.queueMoves with moves | ⟨none_shown, -⟩
    · have first := named i frame (same.symm.trans shown)
      generalize t.admission.queue = r at moves ⊢
      clear shown
      induction moves with
      | refl => exact first
      | tail _ move ih => exact move.terminal_stays ih
    · rw [none_shown] at shown
      cases shown
  cases h with
  | port x kept =>
    intro i frame shown
    exact (kept i frame shown).elim (fun same => named i frame (same.trans shown)) id
  | settles i => exact fun _ _ shown => by cases shown
  | placing _ placed => exact moved (State.transfer_of_frame placed.frame (by decide))
  | seats i p =>
    refine moved ?_
    have seated : ((s.ownInsert p.target).seatClaim p.tag).transfer = (s.ownInsert p.target).transfer :=
      State.transfer_of_frame (State.seatClaim_frame _ p.tag) (by decide)
    exact seated.trans (s.transfer_ownInsert _)
  | loses u lost =>
    exact moved ((State.transfer_of_frame u.yieldAnnounced_frame (by decide)).trans lost.transfer)
  | leaves c => exact moved (s.transfer_causeLeaves c)
  | renames station => exact moved (s.transfer_nameConflict station)
  | relaxes new => exact moved (s.transfer_stability new)
  | maps u mapped =>
    exact moved ((State.transfer_of_frame u.failTaken_frame (by decide)).trans
      (State.transfer_of_frame mapped.frame (by decide)))
  | _ => exact moved rfl

theorem Turn.keeps_serving {s t : State} (h : Turn s t) (serving : s.Serving) (named : s.TransferNamed)
    (numbers : t.numbers.Nodup) : t.Serving := by
  have framed {l : List Block} {u v : State} (kept : u.Serving) (frame : Frame l u v)
      (untouched : Block.claims ∉ l) (queue : v.admission.queue.map Placement.core
        = u.admission.queue.map Placement.core) : v.Serving :=
    kept.of_same (State.cores_of_frame frame untouched) queue
  have same {l : List Block} {u v : State} (frame : Frame l u v) (untouched : Block.admission ∉ l) :
      v.admission.queue.map Placement.core = u.admission.queue.map Placement.core := by
    have admission : v.admission = u.admission := frame .admission untouched
    rw [admission]
  cases h with
  | settles i frame shown =>
    obtain ⟨p, place, terminal⟩ := named i frame shown
    obtain ⟨before, after, queue, rfl⟩ := List.split_of_getElem? place
    have erased : s.admission.queue.eraseIdx before.length = before ++ after := by
      rw [queue, List.eraseIdx_append_of_length_le le_rfl]
      simp
    refine ⟨serving.list, ?_, fun c held kept => ?_⟩
    · refine serving.live.sublist ?_
      exact ((List.eraseIdx_sublist _ _).filter _).map _
    · obtain ⟨q, hq, serves⟩ := serving.served c held kept
      refine ⟨q, ?_, serves⟩
      show q ∈ s.admission.queue.eraseIdx before.length
      have other : q ≠ p := by
        rintro rfl
        rw [(OwnClaim.live_of_serves serves).1] at terminal
        cases terminal
      rw [erased]
      rw [queue] at hq
      simpa [other] using hq
  | placing _ placed => exact placed.keeps_serving serving numbers
  | seats i p place firm => exact serving.seats place firm
  | loses u lost => exact (framed serving lost.frame (by decide) lost.queue_core).yieldAnnounced
  | leaves c => exact framed serving (s.causeLeaves_frame c) (by decide) (same (s.causeLeaves_frame c) (by decide))
  | renames station =>
    exact framed serving (s.nameConflict_frame station) (by decide)
      (same (s.nameConflict_frame station) (by decide))
  | relaxes new _ better =>
    exact framed serving (s.relax_frame better) (by decide) (same (s.relax_frame better) (by decide))
  | maps u mapped =>
    exact (framed serving mapped.frame (by decide) (same mapped.frame (by decide))).failTaken
  | _ => exact serving.of_same rfl rfl

theorem Atom.keeps_serving {c : Instr} {s t : State} (h : Atom c s t) (serving : s.Serving)
    (named : s.TransferNamed) : t.Serving ∧ t.TransferNamed := by
  have empty {u : State} (own : u.claims.own = []) (queue : u.admission.queue = [])
      (ended : u.port.transfer = none) : u.Serving ∧ u.TransferNamed := by
    have cores : u.cores = [] := by rw [State.cores, own]; rfl
    refine ⟨?_, fun i frame shown => by rw [ended] at shown; cases shown⟩
    unfold State.Serving
    rw [cores, queue]
    exact ⟨⟨.nil, .nil, nofun, nofun⟩, .nil, nofun⟩
  cases h with
  | firms own decision member tentative kept begun =>
    refine ⟨serving.firms member tentative kept begun, ?_⟩
    have port : (s.makeFirm own).port = s.port := s.firm_frame _ _ _ _ .port (by decide)
    intro i frame shown
    obtain ⟨p, place, terminal⟩ := named i frame ((congrArg ArmPort.transfer port).symm.trans shown)
    rcases s.makeFirm_queue own with stays | ⟨before, q, x, after, queue, changed, -, was, -⟩
    · exact ⟨p, stays.symm ▸ place, terminal⟩
    · rw [queue] at place
      exact ⟨p, changed.symm ▸ terminal_beside (by rw [was]; rfl) place terminal, terminal⟩
  | restarts cause hold =>
    have cores : s.beginRestart.cores = s.cores := State.cores_of_frame s.beginRestart_frame (by decide)
    exact ⟨serving.of_same cores s.beginRestart_core, fun _ _ shown => by cases shown⟩
  | off hold => exact empty rfl rfl rfl
  | cold i => exact empty rfl rfl rfl
  | warms i => exact empty rfl rfl rfl
  | _ => exact ⟨serving.of_same rfl rfl, named⟩

/-- Settles O59: each move changes a placement and the claim that serves it together. -/
theorem claimsKeepServing : Obligations.ClaimsKeepServing := by
  intro s t bounded _ claims h
  have held := (State.bounded_iff.mp bounded).2.2.2.2
  obtain ⟨list, live, served, named⟩ := (State.claimsServe_iff held.2).mp claims
  obtain ⟨numbers, serving, kept⟩ := step_keeps_of_atoms
    (P := fun s => (s.numbers.length ≤ Config.claimCapacity ∧ s.numbers.Nodup) ∧ s.Serving ∧ s.TransferNamed)
    (fun _ _ _ => id)
    (fun _ _ turn ⟨held, serving, named⟩ =>
      have next := turn.numbersMove.keeps held
      ⟨next, turn.keeps_serving serving named next.2, turn.keeps_transferNamed named⟩)
    (fun _ _ _ atom ⟨held, serving, named⟩ => ⟨atom.numbersMove.keeps held, atom.keeps_serving serving named⟩)
    h ⟨held, ⟨list, live, served⟩, named⟩
  exact (State.claimsServe_iff numbers.2).mpr ⟨serving.list, serving.live, serving.served, kept⟩

end Sys2Proof.Machine

namespace Sys2Proof.Machine

/-! ### The state after reset -/

theorem State.reset_causesTrue : State.reset.CausesTrue :=
  ⟨⟨nofun, fun some => absurd rfl some⟩, rfl, ⟨nofun, fun ⟨_, member, _⟩ => absurd member List.not_mem_nil⟩,
    rfl, fun _ => rfl⟩

theorem State.reset_noneRipe : State.reset.NoneRipe := by
  have records : ∀ r, r ∉ State.reset.map.records := fun _ => List.not_mem_nil
  have queue : ∀ p, p ∉ State.reset.admission.queue := fun _ => List.not_mem_nil
  refine ⟨fun r member => absurd member (records r), fun p member => absurd member (queue p),
    fun c member => ?_, fun _ r member => absurd member (records r)⟩
  have initial : c = CureClass.initial := by
    simpa [State.reset] using member
  rw [initial]
  decide

theorem State.reset_bounded : State.reset.Bounded := by
  rw [State.bounded_iff]
  exact ⟨Nat.zero_le _, ⟨Nat.zero_le _, Nat.zero_le _⟩,
    ⟨Nat.zero_le _, fun _ => by decide, Nat.zero_le _⟩,
    ⟨Nat.zero_le _, Nat.zero_le _, Nat.zero_le _, fun _ => Nat.zero_le _, .nil⟩, Nat.zero_le _, .nil⟩

theorem State.reset_admissionSound : State.reset.AdmissionSound :=
  ⟨Nat.zero_le _, fun _ _ member => absurd member List.not_mem_nil⟩

theorem State.reset_claimsServe : State.reset.ClaimsServe :=
  ⟨fun _ member => absurd member List.not_mem_nil, .nil, .nil, fun _ member => absurd member List.not_mem_nil,
    fun _ member => absurd member List.not_mem_nil, fun _ _ shown => by cases shown⟩

/-- Settles O60: after reset every list is empty, and the causes are those of a platform HALTED. -/
theorem resetIsSafe : Obligations.ResetIsSafe :=
  ⟨StopControl.reset_sound, ⟨⟨fun _ => rfl, fun _ => rfl⟩, fun _ => rfl⟩, State.reset_causesTrue,
    ⟨.nil, fun _ member => absurd member List.not_mem_nil⟩, State.reset_noneRipe, State.reset_bounded,
    State.reset_admissionSound, fun _ member => absurd member List.not_mem_nil, State.reset_claimsServe⟩

end Sys2Proof.Machine

namespace Sys2Proof.Machine

/-! ### Ripe records (R25, R31, R37) -/

/-- A slot holds a WET record at or above its class's threshold. -/
def State.Ripe (s : State) (k : Slot) : Prop :=
  ∃ r stamp, s.recordAt k = some r ∧ r.state = .wet stamp
    ∧ (s.wallClass k.wall).threshold ≤ maturity (s.wallClass k.wall).accum stamp

theorem State.not_ripe_iff {s : State} (sound : s.MapSound) : (∀ k, ¬ s.Ripe k) ↔
    ∀ r ∈ s.map.records, ∀ stamp, r.state = .wet stamp →
      maturity (s.wallClass r.slot.wall).accum stamp < (s.wallClass r.slot.wall).threshold := by
  constructor
  · intro unripe r member stamp wet
    by_contra ripe
    exact unripe r.slot ⟨r, stamp, findRecord_of_mem sound.1 member, wet, not_lt.mp ripe⟩
  · rintro all k ⟨r, stamp, found, wet, ripe⟩
    obtain rfl := State.recordAt_slot found
    exact absurd (all r (State.mem_records_of_recordAt found) stamp wet) (not_lt.mpr ripe)

/-- What ripeness hangs on besides the records: the walls' definitions and the cure classes. -/
def SameGround (s t : State) : Prop :=
  (∀ w, (t.wall w).definition = (s.wall w).definition) ∧ t.cure.classes = s.cure.classes

theorem SameGround.wallClass {s t : State} (same : SameGround s t) (w : Nat) :
    t.wallClass w = s.wallClass w := by
  unfold State.wallClass State.cureClass
  rw [same.1, same.2]

theorem SameGround.of_frame {l : List Block} {s t : State} (frame : Frame l s t)
    (untouched : Block.walls ∉ l ∧ Block.cure ∉ l) : SameGround s t := by
  have walls : t.walls = s.walls := frame .walls untouched.1
  have cure : t.cure = s.cure := frame .cure untouched.2
  exact ⟨fun w => by rw [State.wall, walls, State.wall], by rw [cure]⟩

theorem SameGround.trans {s t u : State} (h : SameGround s t) (k : SameGround t u) : SameGround s u :=
  ⟨fun w => (k.1 w).trans (h.1 w), k.2.trans h.2⟩

/-- No move of the part defines a wall or rewrites a cure class. -/
theorem Turn.sameGround {s t : State} (h : Turn s t) : SameGround s t := by
  cases h with
  | cure x same => exact ⟨fun _ => rfl, same⟩
  | walls x same => exact ⟨fun w => (same w).1, rfl⟩
  | placing _ placed => exact .of_frame placed.frame (by decide)
  | seats i p => exact .of_frame (s.seat_frame _ _ i _) (by decide)
  | loses u lost =>
    exact (SameGround.of_frame lost.frame (by decide)).trans (.of_frame u.yieldAnnounced_frame (by decide))
  | leaves c => exact .of_frame (s.causeLeaves_frame c) (by decide)
  | renames station => exact .of_frame (s.nameConflict_frame station) (by decide)
  | relaxes new _ better => exact .of_frame (s.relax_frame better) (by decide)
  | maps u mapped =>
    have cure : u.cure = s.cure := mapped.frame .cure (by decide)
    have changed : SameGround s u := ⟨mapped.keeps_definition, by rw [cure]⟩
    exact changed.trans (.of_frame u.failTaken_frame (by decide))
  | _ => exact ⟨fun _ => rfl, rfl⟩

theorem State.Ripe.of_same {s t : State} {k : Slot} (ripe : t.Ripe k) (same : SameGround s t)
    (record : (t.recordAt k).map SlotRecord.state = (s.recordAt k).map SlotRecord.state) : s.Ripe k := by
  obtain ⟨r, stamp, found, wet, old⟩ := ripe
  rw [found, Option.map_some, eq_comm, Option.map_eq_some_iff] at record
  obtain ⟨x, held, state⟩ := record
  exact ⟨x, stamp, held, state.trans wet, same.wallClass k.wall ▸ old⟩

theorem State.Ripe.of_records {s t : State} {k : Slot} (ripe : t.Ripe k) (same : SameGround s t)
    (records : t.map.records.map SlotRecord.core = s.map.records.map SlotRecord.core) : s.Ripe k := by
  refine ripe.of_same same ?_
  have core := congrArg (Option.map fun x => x.2.1) (findRecord_core records k)
  rw [Option.map_map, Option.map_map] at core
  exact core

theorem State.Ripe.of_map {s t : State} {k : Slot} (ripe : t.Ripe k) (same : SameGround s t)
    (map : t.map = s.map) : s.Ripe k := ripe.of_records same (by rw [map])

/-- Every threshold is at least 1. -/
def State.Positive (s : State) : Prop := ∀ c ∈ s.cure.classes, 1 ≤ c.threshold

theorem State.Positive.cureClass {s : State} (positive : s.Positive) (k : Nat) :
    1 ≤ (s.cureClass k).threshold := by
  unfold State.cureClass
  rw [List.getD_eq_getElem?_getD]
  cases found : s.cure.classes[k]? with
  | none => exact (by decide : 1 ≤ CureClass.initial.threshold)
  | some c => exact positive c (List.mem_of_getElem? found)

theorem State.Positive.wallClass {s : State} (positive : s.Positive) (w : Nat) :
    1 ≤ (s.wallClass w).threshold := by
  unfold State.wallClass
  split
  · exact positive.cureClass _
  · exact (by decide : 1 ≤ CureClass.initial.threshold)

theorem maturity_self (a : Accum) : maturity a a = 0 := by
  simp [maturity]

/-- A change of the map makes no record ripe. -/
theorem MapStep.ripe_of {s u : State} (h : MapStep s u) (same : SameGround s u) {k : Slot}
    (ripe : u.Ripe k) : s.Ripe k := by
  cases h with
  | put r unripe =>
    by_cases at_slot : k = r.slot
    · subst at_slot
      obtain ⟨x, stamp, found, wet, old⟩ := ripe
      rw [State.recordAt_putRecord, if_pos rfl] at found
      obtain rfl := Option.some.inj found
      rw [same.wallClass] at old
      exact absurd (unripe stamp wet) (not_lt.mpr old)
    · refine ripe.of_same same ?_
      rw [State.recordAt_putRecord, if_neg at_slot]
  | raise w h =>
    obtain ⟨r, stamp, found, wet, old⟩ := ripe
    rw [State.recordAt_raiseHeight] at found
    split at found
    · cases found
    · exact ⟨r, stamp, found, wet, same.wallClass k.wall ▸ old⟩
  | gap w => exact ripe.of_map same rfl

/-- No move of the part makes a record ripe. -/
theorem Turn.ripe_of {s t : State} (h : Turn s t) (positive : s.Positive) {k : Slot} (ripe : t.Ripe k) :
    s.Ripe k := by
  have same := h.sameGround
  cases h with
  | records x core => exact ripe.of_records same core
  | placing _ placed => exact ripe.of_map same (placed.frame .map (by decide))
  | seats i p =>
    obtain ⟨map, -⟩ := s.seat_map p.target p.tag i Placement.seat
    rcases s.ownInsert_records p.target with kept | ⟨r, slot, -, -, records, fresh⟩
    · exact ripe.of_records same (by rw [map, kept])
    · by_cases at_slot : k = r.slot
      · obtain ⟨x, stamp, found, wet, old⟩ := ripe
        rw [State.recordAt, map, records, at_slot, findRecord_insertRecord_self] at found
        obtain rfl := Option.some.inj found
        have young : stamp = (s.wallClass p.target.wall).accum := by
          rcases fresh with ⟨-, state⟩ | ⟨y, -, -, state⟩
          · rw [state] at wet; exact (Adhesive.wet.inj wet).symm
          · rw [state] at wet
            split at wet
            · cases wet
            · exact (Adhesive.wet.inj wet).symm
        rw [same.wallClass, at_slot, slot, young, maturity_self] at old
        exact absurd (positive.wallClass p.target.wall) (by omega)
      · refine ripe.of_same same ?_
        rw [State.recordAt, map, records, findRecord_insertRecord_other at_slot]
        rfl
  | loses u lost =>
    have map : u.yieldAnnounced.map = s.map :=
      (u.yieldAnnounced_frame .map (by decide)).trans (lost.frame .map (by decide))
    exact ripe.of_map same map
  | leaves c => exact ripe.of_map same (s.causeLeaves_frame c .map (by decide))
  | renames station => exact ripe.of_map same (s.nameConflict_frame station .map (by decide))
  | relaxes new _ better => exact ripe.of_map same (s.relax_frame better .map (by decide))
  | maps u mapped =>
    have cure : u.cure = s.cure := mapped.frame .cure (by decide)
    have changed : SameGround s u := ⟨mapped.keeps_definition, by rw [cure]⟩
    exact mapped.ripe_of changed
      (ripe.of_map (.of_frame u.failTaken_frame (by decide)) (u.failTaken_frame .map (by decide)))
  | _ => exact ripe.of_records same rfl

theorem Turns.keeps_positive {s t : State} (h : Turns s t) (positive : s.Positive) : t.Positive :=
  h.keeps (P := State.Positive) (fun _ _ turn positive => by
    unfold State.Positive
    rw [turn.sameGround.2]
    exact positive) positive

theorem Turns.ripe_of {s t : State} (h : Turns s t) (positive : s.Positive) {k : Slot} (ripe : t.Ripe k) :
    s.Ripe k := by
  induction h with
  | refl => exact ripe
  | tail before last ih => exact ih (last.ripe_of (Turns.keeps_positive before positive) ripe)

/-! ### Walks leave no record ripe -/

theorem State.recordChanged_turns_failTaken (s : State) (r : SlotRecord) :
    Turns (s.putRecord r).failTaken (s.recordChanged r) :=
  have told := State.mapChanged_turns_failTaken (s.putRecord r)
  .ite (told.trans (State.checkSlot_turns _ _)) told

/-- A record told SET is not ripe any more. -/
theorem State.walkSlot_not_ripe {s : State} (positive : s.Positive) (k : Slot) : ¬ (s.walkSlot k).Ripe k := by
  intro ripe
  have before := Turns.ripe_of (s.walkSlot_turns k) positive ripe
  obtain ⟨r, stamp, found, wet, old⟩ := before
  unfold State.walkSlot at ripe
  simp only [found, wet, if_pos old] at ripe
  obtain rfl := State.recordAt_slot found
  have changed : Turns (s.putRecord { r with state := .set }).failTaken
      (s.recordChanged { r with state := .set }) := s.recordChanged_turns_failTaken _
  have frame := (s.putRecord { r with state := .set }).failTaken_frame
  have cure : (s.putRecord { r with state := .set }).failTaken.cure = s.cure := frame .cure (by decide)
  have told : (s.putRecord { r with state := .set }).failTaken.Positive := by
    unfold State.Positive
    rw [cure]
    exact positive
  obtain ⟨x, y, there, wet', -⟩ :=
    (changed.ripe_of told ripe).of_map (.of_frame frame (by decide)) (frame .map (by decide))
  rw [State.recordAt_putRecord, if_pos rfl] at there
  obtain rfl := Option.some.inj there
  cases wet'

theorem State.walk_not_ripe {s : State} (positive : s.Positive) {l : List Slot} {k : Slot}
    (ripe : (l.foldl State.walkSlot s).Ripe k) : s.Ripe k ∧ k ∉ l := by
  induction l generalizing s with
  | nil => exact ⟨ripe, List.not_mem_nil⟩
  | cons x l ih =>
    have walked := s.walkSlot_turns x
    obtain ⟨next, other⟩ := ih (walked.keeps_positive positive) ripe
    refine ⟨walked.ripe_of positive next, ?_⟩
    rw [List.mem_cons]
    rintro (rfl | member)
    · exact State.walkSlot_not_ripe positive k next
    · exact other member

theorem State.Ripe.mem_wetSlots {s : State} {k : Slot} (ripe : s.Ripe k) : k ∈ s.wetSlots := by
  obtain ⟨r, stamp, found, wet, -⟩ := ripe
  refine List.mem_map.mpr ⟨r, List.mem_filter.mpr ⟨State.mem_records_of_recordAt found, ?_⟩,
    State.recordAt_slot found⟩
  simp [SlotRecord.isSet, wet]

/-- The sweep leaves no record ripe (R31, R37). -/
theorem State.sweep_not_ripe {s : State} (positive : s.Positive) (k : Slot) : ¬ s.sweep.Ripe k := by
  intro ripe
  obtain ⟨before, other⟩ := State.walk_not_ripe positive ripe
  exact other before.mem_wetSlots

/-- The conversion walk leaves none ripe of its class (R25). -/
theorem State.conversionWalk_ripe {s : State} (positive : s.Positive) {cls : Nat} {k : Slot}
    (ripe : (s.conversionWalk cls).Ripe k) : s.Ripe k ∧ s.slotOfClass cls k = false := by
  obtain ⟨before, other⟩ := State.walk_not_ripe positive ripe
  refine ⟨before, ?_⟩
  by_contra mine
  exact other (List.mem_filter.mpr ⟨before.mem_wetSlots, by simpa using mine⟩)

theorem State.cureClass_mapClass (s : State) (cls n : Nat) (f : CureClass → CureClass) :
    (s.mapClass cls f).cureClass n
      = if n = cls ∧ n < s.cure.classes.length then f (s.cureClass n) else s.cureClass n := by
  unfold State.cureClass State.mapClass
  simp only [List.getD_eq_getElem?_getD, List.getElem?_modify]
  by_cases same : cls = n
  · subst same
    by_cases lt : cls < s.cure.classes.length
    · simp [lt]
    · simp [lt]
  · simp [same, Ne.symm same]

/-- A class's threshold rewritten makes ripe only records of its own walls, and only where it is lowered. -/
theorem State.ripe_of_configure {s : State} {cls threshold : Nat} {datum : Int} {k : Slot}
    (ripe : (s.mapClass cls fun c => c.configure datum threshold).Ripe k) :
    s.Ripe k ∨ s.slotOfClass cls k = true ∧ threshold < (s.cureClass cls).threshold := by
  obtain ⟨r, stamp, found, wet, old⟩ := ripe
  have walls (w : Nat) : (s.mapClass cls fun c => c.configure datum threshold).wall w = s.wall w := rfl
  unfold State.wallClass at old
  rw [walls] at old
  cases hd : (s.wall k.wall).definition with
  | none => exact .inl ⟨r, stamp, found, wet, by simpa [State.wallClass, hd] using old⟩
  | some d =>
    simp only [hd, State.cureClass_mapClass] at old
    split at old
    · next mine =>
      by_cases lowered : threshold < (s.cureClass cls).threshold
      · exact .inr ⟨by simp [State.slotOfClass, hd, mine.1], lowered⟩
      · refine .inl ⟨r, stamp, found, wet, ?_⟩
        simp only [State.wallClass, hd]
        rw [mine.1] at old ⊢
        exact (not_lt.mp lowered).trans old
    · exact .inl ⟨r, stamp, found, wet, by simpa [State.wallClass, hd] using old⟩

/-- SET-CURE leaves no record ripe where none was (R25). -/
theorem State.acceptCure_not_ripe {s : State} (cls threshold : Nat) (datum : Int)
    (positive : (s.mapClass cls fun c => c.configure datum threshold).Positive) (unripe : ∀ k, ¬ s.Ripe k)
    (k : Slot) : ¬ (s.acceptCure cls datum threshold).Ripe k := by
  unfold State.acceptCure
  simp only
  split
  · intro ripe
    obtain ⟨before, other⟩ := State.conversionWalk_ripe positive ripe
    rcases State.ripe_of_configure before with old | ⟨mine, -⟩
    · exact unripe k old
    · exact absurd (mine.symm.trans other) (by decide)
  · next kept =>
    intro ripe
    exact (State.ripe_of_configure ripe).elim (unripe k) fun lowered => kept lowered.2

/-! ### Records and placements on defined walls (R16, R34) -/

/-- Records and placements lie on defined walls, and every threshold is at least 1. -/
def State.OnWalls (s : State) : Prop :=
  (∀ r ∈ s.map.records, (s.wall r.slot.wall).definition.isSome = true)
    ∧ (∀ p ∈ s.admission.queue, s.Grounded p) ∧ s.Positive

/-- Each placement of `r` has a target of `q`, or satisfies `N`. -/
theorem QueueMove.grounded {A N : Placement → Prop} {q r : List Placement} (h : QueueMove A N q r)
    (slotwise : ∀ p x : Placement, x.target = p.target → N p → N x) (all : ∀ p ∈ q, N p) : ∀ p ∈ r, N p := by
  intro y member
  cases h with
  | same core =>
    obtain ⟨x, hx, same⟩ := mem_of_core core member
    simp only [Placement.core, Prod.mk.injEq] at same
    exact slotwise x y same.2.1.symm (all x hx)
  | @changes before after p x named =>
    rcases mem_of_change (p := p) member with rfl | hy
    · exact slotwise p y named.2 (all p (by simp))
    · exact all y hy
  | @announces before after p x named =>
    rcases mem_of_change (p := p) member with rfl | hy
    · exact slotwise p y named.2 (all p (by simp))
    · exact all y hy
  | @appends q p room fresh queued placed =>
    rcases List.mem_append.mp member with hy | hy
    · exact all y hy
    · exact List.mem_singleton.mp hy ▸ placed
  | failsAll =>
    obtain ⟨p, hp, rfl⟩ := List.mem_map.mp member
    refine slotwise p _ ?_ (all p hp)
    split <;> rfl

/-- A record after a change of the map stands on a defined wall. -/
theorem MapStep.defined {s u : State} (h : MapStep s u)
    (all : ∀ r ∈ s.map.records, (s.wall r.slot.wall).definition.isSome = true) :
    ∀ r ∈ u.map.records, (s.wall r.slot.wall).definition.isSome = true := by
  intro x member
  cases h with
  | put r _ new =>
    rcases mem_insertRecord member with rfl | member
    · cases found : s.recordAt x.slot with
      | none => exact (new found).2.2.2
      | some y => exact State.recordAt_slot found ▸ all y (State.mem_records_of_recordAt found)
    · exact all x member
  | raise w h => exact all x (List.mem_filter.mp member).1
  | gap w => exact all x member

theorem Turn.keeps_onWalls {s t : State} (h : Turn s t) (on : s.OnWalls) : t.OnWalls := by
  obtain ⟨records, queue, positive⟩ := on
  have same := h.sameGround
  have positive' : t.Positive := by
    unfold State.Positive
    rw [same.2]
    exact positive
  have grounded : ∀ p ∈ t.admission.queue, s.Grounded p :=
    h.keeps_queue (P := fun q => ∀ p ∈ q, s.Grounded p)
      (fun _ _ move => move.grounded fun p x target grounded => by
        unfold State.Grounded at grounded ⊢
        rwa [target])
      (fun _ _ part all p member => all p (part.subset member)) queue
  suffices ∀ r ∈ t.map.records, (s.wall r.slot.wall).definition.isSome = true by
    refine ⟨fun r member => ?_, fun p member => ?_, positive'⟩
    · rw [same.1]; exact this r member
    · have := grounded p member
      unfold State.Grounded at this ⊢
      rwa [same.1]
  have kept (map : t.map = s.map) : ∀ r ∈ t.map.records, (s.wall r.slot.wall).definition.isSome = true :=
    map ▸ records
  cases h with
  | records x core =>
    intro r member
    have slots := SlotRecord.map_slot_of_core core
    obtain ⟨y, hy, slot⟩ := List.mem_map.mp (slots ▸ List.mem_map_of_mem (f := SlotRecord.slot) member)
    exact slot ▸ records y hy
  | placing _ placed => exact kept (placed.frame .map (by decide))
  | seats i p place =>
    obtain ⟨map, -⟩ := s.seat_map p.target p.tag i Placement.seat
    rw [map]
    rcases s.ownInsert_records p.target with same | ⟨r, slot, -, -, inserted, -⟩
    · rw [same]; exact records
    · rw [inserted]
      intro x member
      rcases mem_insertRecord member with rfl | member
      · exact slot ▸ queue p (List.mem_of_getElem? place)
      · exact records x member
  | loses u lost =>
    exact kept ((u.yieldAnnounced_frame .map (by decide)).trans (lost.frame .map (by decide)))
  | leaves c => exact kept (s.causeLeaves_frame c .map (by decide))
  | renames station => exact kept (s.nameConflict_frame station .map (by decide))
  | relaxes new _ better => exact kept (s.relax_frame better .map (by decide))
  | maps u mapped =>
    have map : u.failTaken.map = u.map := u.failTaken_frame .map (by decide)
    rw [map]
    exact mapped.defined records
  | _ => exact records

theorem State.threshold_of_cureRefusal {s : State} {cls : Octet} {datum : Word16} {threshold : BitVec 32}
    (taken : s.cureRefusal cls datum threshold = none) : 1 ≤ threshold.toNat := by
  unfold State.cureRefusal at taken
  split at taken
  · cases taken
  · split at taken
    · cases taken
    · split at taken
      · cases taken
      · split at taken
        · cases taken
        · next range =>
          simp only [Bool.or_eq_true, decide_eq_true_eq, not_or, not_lt] at range
          exact range.1

theorem State.Positive.mapClass {s : State} (positive : s.Positive) (k : Nat) {f : CureClass → CureClass}
    (made : ∀ c, 1 ≤ (f c).threshold) : (s.mapClass k f).Positive := by
  intro c member
  have member : c ∈ s.cure.classes.modify k f := member
  obtain ⟨i, lt, rfl⟩ := List.getElem_of_mem member
  rw [List.getElem_modify]
  split
  · exact made _
  · exact positive _ (List.getElem_mem _)

theorem State.cutWalk_positive {s : State} (positive : s.Positive) : s.cutWalk.Positive := by
  unfold State.cutWalk
  split
  · split
    · next walks =>
      simp only [State.walksFor, Bool.and_eq_true, Option.isNone_iff_eq_none] at walks
      exact positive.mapClass _ fun _ => State.threshold_of_cureRefusal walks.1
    · exact positive
  · exact positive
  · exact positive

theorem WallPlace.define_defined (p : WallPlace) (d : WallDef) : (p.define d).definition = some d := by
  unfold WallPlace.define
  split <;> rfl

theorem State.OnWalls.of_core {s t : State} (on : s.OnWalls)
    (definitions : ∀ w, (s.wall w).definition.isSome = true → (t.wall w).definition.isSome = true)
    (records : t.map.records = s.map.records)
    (queue : ∀ p ∈ t.admission.queue, ∃ x ∈ s.admission.queue, x.target = p.target)
    (positive : t.Positive) : t.OnWalls := by
  refine ⟨fun r member => definitions _ (on.1 r (records ▸ member)), fun p member => ?_, positive⟩
  obtain ⟨x, hx, target⟩ := queue p member
  exact definitions _ (target ▸ on.2.1 x hx)

theorem State.reset_onWalls : State.reset.OnWalls :=
  ⟨State.reset_noneRipe.1, State.reset_noneRipe.2.1, State.reset_noneRipe.2.2.1⟩

theorem Atom.keeps_onWalls {c : Instr} {s t : State} (h : Atom c s t) (on : s.OnWalls) : t.OnWalls := by
  have same (q : List Placement) : ∀ p ∈ q, ∃ x ∈ q, x.target = p.target := fun p member => ⟨p, member, rfl⟩
  have from_core {q r : List Placement} (core : r.map Placement.core = q.map Placement.core) :
      ∀ p ∈ r, ∃ x ∈ q, x.target = p.target := by
    intro p member
    obtain ⟨x, hx, equal⟩ := mem_of_core core member
    exact ⟨x, hx, congrArg (fun k => k.2.1) equal⟩
  cases h with
  | firms own =>
    have frame : Frame [.admission, .claims, .tx] s (s.makeFirm own) := s.firm_frame _ _ _ _
    have map : (s.makeFirm own).map = s.map := frame .map (by decide)
    have cure : (s.makeFirm own).cure = s.cure := frame .cure (by decide)
    have walls : (s.makeFirm own).walls = s.walls := frame .walls (by decide)
    refine on.of_core (t := s.makeFirm own) (fun w => by rw [State.wall, State.wall, walls]; exact id)
      (by rw [map]) (fun p member => ?_) (by unfold State.Positive; rw [cure]; exact on.2.2)
    rcases s.makeFirm_queue own with kept | ⟨before, q, x, after, queue, changed, -, -, -, target, -⟩
    · exact ⟨p, kept ▸ member, rfl⟩
    · rw [changed] at member
      rw [queue]
      rcases mem_of_change (p := q) member with rfl | hp
      · exact ⟨q, by simp, target.symm⟩
      · exact ⟨p, hp, rfl⟩
  | defines f d =>
    refine on.of_core (fun w defined => ?_) rfl (same _) on.2.2
    rw [State.wall_mapWall]
    split
    · rw [WallPlace.define_defined]; rfl
    · exact defined
  | configures cls datum threshold request taken =>
    exact on.of_core (fun _ => id) rfl (same _)
      (on.2.2.mapClass _ fun _ => State.threshold_of_cureRefusal taken)
  | advances =>
    refine on.of_core (fun _ => id) rfl (same _) fun x member => ?_
    obtain ⟨y, hy, rfl⟩ := List.mem_map.mp member
    exact on.2.2 y hy
  | restarts cause hold =>
    have frame := s.beginRestart_frame
    have map : s.beginRestart.map = s.map := frame .map (by decide)
    have walls : s.beginRestart.walls = s.walls := frame .walls (by decide)
    refine on.of_core (fun w defined => ?_) (congrArg CourseMap.records map)
      (from_core s.beginRestart_core) (State.cutWalk_positive on.2.2)
    show (s.beginRestart.wall w).definition.isSome = true
    rw [State.wall, walls]
    exact defined
  | off hold => exact State.reset_onWalls
  | cold i => exact State.reset_onWalls
  | warms i =>
    refine on.of_core (fun w defined => ?_) rfl (fun _ member => absurd member List.not_mem_nil) on.2.2
    rw [State.warmKept_wall]
    exact defined
  | _ => exact on

/-! ### Outside a restart no record is ripe (R25, R31, R37) -/

/-- Records stand in key order on defined walls, and none is ripe outside a restart. -/
def State.RipenessSound (s : State) : Prop :=
  s.MapSound ∧ s.OnWalls ∧ (s.inRestart = false → ∀ k, ¬ s.Ripe k)

theorem State.inRestart_congr {s t : State} (hold : t.supply.hold = s.supply.hold) :
    t.inRestart = s.inRestart := by
  unfold State.inRestart
  rw [hold]

theorem Turns.keeps_hold {s t : State} (h : Turns s t) : t.supply.hold = s.supply.hold :=
  h.keeps (P := fun t => t.supply.hold = s.supply.hold) (fun _ _ turn same => turn.keeps_hold.trans same) rfl

theorem Turn.keeps_ripenessSound {s t : State} (h : Turn s t) (sound : s.RipenessSound) :
    t.RipenessSound := by
  obtain ⟨order, on, unripe⟩ := sound
  refine ⟨h.keeps_mapSound order, h.keeps_onWalls on, fun running k ripe => ?_⟩
  rw [State.inRestart_congr h.keeps_hold] at running
  exact unripe running k (h.ripe_of on.2.2 ripe)

/-- A wall redefined holds no record: its records' classes stand (R3). -/
theorem State.defines_ripe {s : State} (on : s.OnWalls) {w : Nat} {d : WallDef}
    (free : (s.wall w).definition.isSome = true → s.replaceable w = true) {k : Slot}
    (ripe : (s.mapWall w fun p => p.define d).Ripe k) : s.Ripe k := by
  obtain ⟨r, stamp, found, wet, old⟩ := ripe
  have member : r ∈ s.map.records := State.mem_records_of_recordAt found
  have slot : r.slot = k := State.recordAt_slot found
  have other : w ≠ k.wall := by
    rintro rfl
    have empty := free (slot ▸ on.1 r member)
    simp only [State.replaceable, Bool.and_eq_true, List.all_eq_true, bne_iff_ne] at empty
    exact empty.1 r member (by rw [slot])
  have same : (s.mapWall w fun p => p.define d).wallClass k.wall = s.wallClass k.wall := by
    unfold State.wallClass
    rw [State.wall_mapWall, if_neg fun both => other both.1]
    rfl
  exact ⟨r, stamp, found, wet, same ▸ old⟩

theorem Special.keeps_unripe {c : Instr} {s t : State} (h : Special c s t) (on : s.OnWalls)
    (unripe : s.inRestart = false → ∀ k, ¬ s.Ripe k) : t.inRestart = false → ∀ k, ¬ t.Ripe k := by
  have entered (x : SiteState) (running : s.inRestart = false) : ∀ k, ¬ (s.enterSite x).Ripe k :=
    fun k ripe => unripe running k (ripe.of_map ⟨fun _ => rfl, rfl⟩ rfl)
  intro running k ripe
  cases h with
  | firms own =>
    have frame : Frame [.admission, .claims, .tx] s (s.makeFirm own) := s.firm_frame _ _ _ _
    have supply : (s.makeFirm own).supply = s.supply := frame .supply (by decide)
    have was : s.inRestart = false := (State.inRestart_congr (t := s.makeFirm own) (by rw [supply])).symm.trans running
    exact unripe was k (State.Ripe.of_map (t := s.makeFirm own) ripe (.of_frame frame (by decide))
      (frame .map (by decide)))
  | defines f d _ _ free => exact unripe running k (State.defines_ripe on free ripe)
  | cures cls datum threshold _ taken =>
    have positive : (s.mapClass cls.toNat fun c => c.configure datum.toInt threshold.toNat).Positive :=
      on.2.2.mapClass _ fun _ => State.threshold_of_cureRefusal taken
    have walked : Turns (s.mapClass cls.toNat fun c => c.configure datum.toInt threshold.toNat)
        (s.acceptCure cls.toNat datum.toInt threshold.toNat) :=
      .ite (State.conversionWalk_turns _ _) (.refl _)
    have was : s.inRestart = false := (State.inRestart_congr walked.keeps_hold).symm.trans running
    exact State.acceptCure_not_ripe _ _ _ positive (unripe was) k ripe
  | ticks =>
    have advanced : ({ s with cure := s.cure.advance s.monitor.ambient } : State).Positive := fun x member => by
      obtain ⟨y, hy, rfl⟩ := List.mem_map.mp member
      exact on.2.2 y hy
    exact State.sweep_not_ripe (Turns.keeps_positive (State.oweSiteIf_turns _ _) advanced) k ripe
  | configures f => exact entered _ running k ripe
  | starts => exact entered _ running k ripe
  | online => exact entered _ running k ripe
  | leaving => exact entered _ running k ripe
  | ended u _ _ moves =>
    have turns := moves.trans (u.setStability_turns _ (.inr rfl))
    have was : s.inRestart = false := (State.inRestart_congr turns.keeps_hold).symm.trans running
    exact entered _ was k (turns.ripe_of on.2.2 ripe)
  | held cause hold => cases running
  | restarts cause hold => cases running
  | off hold => cases running
  | cold i =>
    obtain ⟨r, stamp, found, -⟩ := ripe
    cases found
  | warm i =>
    have kept : (s.warmKept.takeInputs i).Positive := on.2.2
    have begun : Turns (s.warmKept.takeInputs i)
        (if s.site.config.isSome then (s.warmKept.takeInputs i).beginBlocks
          else s.warmKept.takeInputs i) :=
      .ite (State.beginBlocks_turns _) (.refl _)
    exact State.sweep_not_ripe (begun.keeps_positive kept) k ripe

/-- Settles O55: a record is made or changed unripe, and a walk follows each change that makes one ripe. -/
theorem noRecordIsLeftRipe : Obligations.NoRecordIsLeftRipe := by
  intro s t order unripe h
  obtain ⟨records, queue, positive, ripe⟩ := unripe
  have sound : s.RipenessSound :=
    ⟨order, ⟨records, queue, positive⟩, fun running => (State.not_ripe_iff order).mpr (ripe running)⟩
  obtain ⟨order', ⟨records', queue', positive'⟩, unripe'⟩ :=
    step_keeps (P := State.RipenessSound) (fun _ _ _ => id) (fun _ _ => Turn.keeps_ripenessSound)
      (fun _ _ _ special ⟨order, on, unripe⟩ =>
        have next := special.keeps (fun _ _ => Turn.keeps_onWalls) (fun _ _ => Atom.keeps_onWalls) on
        ⟨special.keeps (fun _ _ => Turn.keeps_mapSound) (fun _ _ => Atom.keeps_mapSound) order, next,
          special.keeps_unripe on unripe⟩) h sound
  exact ⟨records', queue', positive', fun running => (State.not_ripe_iff order').mp (unripe' running)⟩

end Sys2Proof.Machine

namespace Sys2Proof.Machine

/-! ### Time and the waiting commands (R184) -/

/-- The blocks that a move can touch. -/
def touched : List Block :=
  [.site, .supply, .walls, .map, .cure, .admission, .claims, .tx, .rx, .notice, .monitor, .stop, .port,
    .freeCount]

theorem Turn.frame {s t : State} (h : Turn s t) : Frame touched s t := by
  cases h with
  | placing _ placed => exact placed.frame.mono rfl
  | peers => intro b hb; cases b <;> simp [State.agreesOn, touched] at hb ⊢
  | seats i p => exact (s.seat_frame _ _ i _).mono rfl
  | loses u lost => exact (lost.frame.mono rfl).trans (u.yieldAnnounced_frame.mono rfl)
  | leaves c => exact (s.causeLeaves_frame c).mono rfl
  | renames station => exact (s.nameConflict_frame station).mono rfl
  | relaxes new _ better => exact (s.relax_frame better).mono rfl
  | maps u mapped => exact (mapped.frame.mono rfl).trans (u.failTaken_frame.mono rfl)
  | _ => intro b hb; cases b <;> simp [State.agreesOn, touched] at hb ⊢

/-- A part that ends a restart was powered off where it began to be. -/
structure Timed (c : Instr) (s t : State) : Prop where
  pending : t.pending = s.pending
  now : t.now = s.now ∨ c = .powerOff ∨ ∃ i, c = .restartEnd i ∧ s.poweredOff = true
  off : (∃ i, c = .restartEnd i) → t.poweredOff = true → s.poweredOff = true

theorem Timed.of_same {c : Instr} {s t u : State} (timed : Timed c s t) (pending : u.pending = t.pending)
    (now : u.now = t.now) (off : (∃ i, c = .restartEnd i) → u.poweredOff = true → t.poweredOff = true) :
    Timed c s u :=
  ⟨pending.trans timed.pending, now ▸ timed.now, fun ends held => timed.off ends (off ends held)⟩

theorem Turn.keeps_timed {c : Instr} {s t u : State} (h : Turn t u) (timed : Timed c s t) : Timed c s u := by
  refine timed.of_same (h.frame .pending (by decide)) (h.frame .now (by decide)) fun _ held => ?_
  unfold State.poweredOff at held ⊢
  rwa [h.keeps_hold] at held

theorem Atom.keeps_timed {c : Instr} {s t u : State} (h : Atom c t u) (timed : Timed c s t) :
    Timed c s u := by
  have framed {l : List Block} {v : State} (frame : Frame l t v)
      (untouched : Block.pending ∉ l ∧ Block.now ∉ l ∧ Block.supply ∉ l) : Timed c s v := by
    have supply : v.supply = t.supply := frame .supply untouched.2.2
    refine timed.of_same (frame .pending untouched.1) (frame .now untouched.2.1) fun _ held => ?_
    unfold State.poweredOff at held ⊢
    rwa [supply] at held
  cases h with
  | firms own => exact framed (t.firm_frame _ _ _ _) (by decide)
  | held cause hold command =>
    exact timed.of_same rfl rfl fun ⟨i, other⟩ => by rw [command] at other; cases other
  | restarts cause hold command =>
    have frame := t.beginRestart_frame
    exact timed.of_same (frame .pending (by decide)) (frame .now (by decide)) fun ⟨i, other⟩ => by
      rw [command] at other; cases other
  | off hold command =>
    exact ⟨timed.pending, .inr (.inl command), fun ⟨i, other⟩ => by rw [command] at other; cases other⟩
  | cold i command _ powerless =>
    exact ⟨timed.pending, .inr (.inr ⟨i, command, timed.off ⟨i, command⟩ powerless⟩), fun _ held => by
      cases held⟩
  | warms i command => exact timed.of_same rfl rfl fun _ held => by cases held
  | _ => exact timed.of_same rfl rfl fun _ => id

theorem exec_timed {c : Instr} {s t : State} (h : exec c s = .next t) : Timed c s t :=
  exec_keeps (P := Timed c s) (fun _ _ turn => turn.keeps_timed) (fun _ _ atom => atom.keeps_timed) h
    ⟨rfl, .inl rfl, fun _ => id⟩

theorem exec_next (c : Instr) (s : State) : ∃ t, exec c s = .next t := by
  cases c <;> exact ⟨_, rfl⟩

/-- Settles O45: no move bears on the waiting commands, and only a cold start takes the time of reset. -/
theorem commandsEndAndTakeNoTime : Obligations.CommandsEndAndTakeNoTime := by
  intro c s
  obtain ⟨t, h⟩ := exec_next c s
  have timed := exec_timed h
  exact ⟨t, h, timed.pending, timed.now⟩

/-! ### Accumulators (R26) -/

/-- A class's accumulator stands as it was. -/
def SameAccum (k : Nat) (s t : State) : Prop := (t.cureClass k).accum = (s.cureClass k).accum

theorem SameAccum.of_classes {k : Nat} {s t : State} (same : t.cure.classes = s.cure.classes) :
    SameAccum k s t := by
  unfold SameAccum State.cureClass
  rw [same]

theorem SameAccum.configure {k cls threshold : Nat} {datum : Int} (s : State) :
    SameAccum k s (s.mapClass cls fun c => c.configure datum threshold) := by
  unfold SameAccum
  rw [State.cureClass_mapClass]
  split <;> rfl

theorem State.cutWalk_sameAccum (s : State) (k : Nat) : SameAccum k s s.cutWalk := by
  unfold State.cutWalk
  split
  · split
    · exact .configure s
    · rfl
  · rfl
  · rfl

theorem Atom.sameAccum {c : Instr} {s t : State} (h : Atom c s t) (k : Nat) (tick : c ≠ .cureTick)
    (off : c ≠ .powerOff) (cold : (∃ i, c = .restartEnd i) → s.poweredOff = false) : SameAccum k s t := by
  cases h with
  | firms own =>
    have cure : (s.makeFirm own).cure = s.cure := s.firm_frame _ _ _ _ .cure (by decide)
    exact .of_classes (t := s.makeFirm own) (by rw [cure])
  | configures => exact .configure s
  | advances command => exact absurd command tick
  | restarts => exact s.cutWalk_sameAccum k
  | off hold command => exact absurd command off
  | cold i command _ powerless => simp [cold ⟨i, command⟩] at powerless
  | _ => rfl

theorem exec_sameAccum {c : Instr} {s t : State} (k : Nat) (h : exec c s = .next t) (tick : c ≠ .cureTick)
    (off : c ≠ .powerOff) (cold : ¬((∃ i, c = .restartEnd i) ∧ s.poweredOff = true)) : SameAccum k s t := by
  refine (exec_keeps (P := fun u => Timed c s u ∧ SameAccum k s u)
    (fun _ _ turn ⟨timed, same⟩ =>
      ⟨turn.keeps_timed timed, (SameAccum.of_classes turn.sameGround.2).trans same⟩)
    (fun u _ atom ⟨timed, same⟩ => ⟨atom.keeps_timed timed, (atom.sameAccum k tick off fun ends => ?_).trans same⟩)
    h ⟨⟨rfl, .inl rfl, fun _ => id⟩, rfl⟩).2
  by_contra held
  exact cold ⟨ends, timed.off ends (by simpa using held)⟩

theorem Turns.sameGround {s t : State} (h : Turns s t) : SameGround s t :=
  h.keeps (P := SameGround s) (fun _ _ turn same => same.trans turn.sameGround) ⟨fun _ => rfl, rfl⟩

theorem increment_le (ambient : Option Int) (datum : Int) : increment ambient datum ≤ 240 := by
  unfold increment
  split
  · exact Nat.zero_le _
  · exact min_le_left _ _

theorem State.cureTick_accum (s : State) (k : Nat) :
    ∃ d, d ≤ 240 ∧ (s.cureTick.cureClass k).accum = (s.cureClass k).accum + BitVec.ofNat 32 d := by
  have swept : s.cureTick.cure.classes = s.cure.classes.map (CureClass.advance s.monitor.ambient) :=
    (Turns.trans (State.oweSiteIf_turns { s with cure := s.cure.advance s.monitor.ambient } _)
      (State.sweep_turns _)).sameGround.2
  unfold State.cureClass
  rw [swept]
  simp only [List.getD_eq_getElem?_getD, List.getElem?_map]
  cases s.cure.classes[k]? with
  | none => exact ⟨0, Nat.zero_le _, (BitVec.add_zero _).symm⟩
  | some c => exact ⟨_, increment_le s.monitor.ambient c.datum, rfl⟩

theorem State.reset_accum (k : Nat) : (State.reset.cureClass k).accum = 0 := by
  have initial : State.reset.cureClass k = CureClass.initial := by
    unfold State.cureClass State.reset
    rw [List.getD_eq_getElem?_getD, List.getElem?_replicate]
    split <;> rfl
  rw [initial]
  rfl

/-- Settles O46: only a cure tick rewrites an accumulator, and only a cold start or power-off drops it. -/
theorem accumulatorsMoveOnlyAtTicks : Obligations.AccumulatorsMoveOnlyAtTicks := by
  intro c s t k h
  refine ⟨?_, ?_, exec_sameAccum k h⟩
  · rintro rfl
    obtain rfl := Host.Outcome.next.inj h
    split
    · exact s.cureTick_accum k
    · exact ⟨0, Nat.zero_le _, (BitVec.add_zero _).symm⟩
  · rintro i rfl powerless
    obtain rfl := Host.Outcome.next.inj h
    cases held : s.supply.hold with
    | none => simp [State.poweredOff, held] at powerless
    | some x =>
      have off : x.poweredOff = true := by simpa [State.poweredOff, held] using powerless
      simp only [if_pos off]
      exact State.reset_accum k

end Sys2Proof.Machine

namespace Sys2Proof.Machine

/-! ### Solid heights and definitions (R3, R5, R19) -/

/-- What becomes of a wall: it rises, or keeps its records' slots; its definition stands, or SET-WALL has
redefined it while it was empty. -/
structure WallMove (c : Instr) (w : Nat) (s t : State) : Prop where
  rises : (s.wall w).solidHeight ≤ (t.wall w).solidHeight
  defined : (t.wall w).definition.isSome = true
  definition : (t.wall w).definition = (s.wall w).definition
    ∨ (∃ f, carries c (.setWall f) ∧ f.wall.toNat = w) ∧ (s.wall w).solidHeight = 0
      ∧ ∀ r ∈ s.map.records, r.slot.wall ≠ w
  slots : (t.wall w).solidHeight = (s.wall w).solidHeight →
    ∀ r ∈ s.map.records, r.slot.wall = w → ∃ x ∈ t.map.records, x.slot = r.slot

/-- Each slot of the wall that holds a record holds one still. -/
def SlotsStay (w : Nat) (s t : State) : Prop :=
  ∀ r ∈ s.map.records, r.slot.wall = w → ∃ x ∈ t.map.records, x.slot = r.slot

theorem SlotsStay.of_map {w : Nat} {s t : State} (map : t.map = s.map) : SlotsStay w s t :=
  fun r member _ => ⟨r, by rw [map]; exact member, rfl⟩

theorem SlotsStay.of_slots {w : Nat} {s t : State}
    (slots : t.map.records.map SlotRecord.slot = s.map.records.map SlotRecord.slot) : SlotsStay w s t := by
  intro r member _
  obtain ⟨x, hx, slot⟩ := List.mem_map.mp (slots.symm ▸ List.mem_map_of_mem (f := SlotRecord.slot) member)
  exact ⟨x, hx, slot⟩

theorem mem_insertRecord_slot (r : SlotRecord) {l : List SlotRecord} {x : SlotRecord} (member : x ∈ l) :
    ∃ y ∈ insertRecord r l, y.slot = x.slot := by
  induction l with
  | nil => cases member
  | cons z l ih =>
    unfold insertRecord
    by_cases same : z.slot = r.slot
    · rw [if_pos same]
      rcases List.mem_cons.mp member with rfl | later
      · exact ⟨r, by simp, same.symm⟩
      · exact ⟨x, by simp [later], rfl⟩
    · rw [if_neg same]
      split
      · exact ⟨x, List.mem_cons_of_mem _ member, rfl⟩
      · rcases List.mem_cons.mp member with rfl | later
        · exact ⟨x, by simp, rfl⟩
        · obtain ⟨y, hy, slot⟩ := ih later
          exact ⟨y, List.mem_cons_of_mem _ hy, slot⟩

/-- A wall keeps its height and the slots of its records, or rises. -/
def Climbs (w : Nat) (s t : State) : Prop :=
  (t.wall w).solidHeight = (s.wall w).solidHeight ∧ SlotsStay w s t
    ∨ (s.wall w).solidHeight < (t.wall w).solidHeight

theorem Climbs.of_frame {l : List Block} {w : Nat} {s t : State} (frame : Frame l s t)
    (untouched : Block.walls ∉ l ∧ Block.map ∉ l) : Climbs w s t := by
  have walls : t.walls = s.walls := frame .walls untouched.1
  exact .inl ⟨by rw [State.wall, walls, State.wall], .of_map (frame .map untouched.2)⟩

theorem Climbs.trans_frame {l : List Block} {w : Nat} {s t u : State} (h : Climbs w s t) (frame : Frame l t u)
    (untouched : Block.walls ∉ l ∧ Block.map ∉ l) : Climbs w s u := by
  have walls : u.walls = t.walls := frame .walls untouched.1
  have map : u.map = t.map := frame .map untouched.2
  unfold Climbs SlotsStay State.wall at h ⊢
  rwa [walls, map]

theorem MapStep.climbs {s u : State} (h : MapStep s u) (w : Nat) : Climbs w s u := by
  cases h with
  | put r => exact .inl ⟨rfl, fun x member _ => mem_insertRecord_slot r member⟩
  | raise v h defined higher =>
    by_cases same : v = w
    · subst same
      refine .inr ?_
      rw [State.wall_raiseHeight, if_pos ⟨rfl, State.lt_of_defined defined⟩]
      exact higher
    · refine .inl ⟨by rw [State.wall_raiseHeight, if_neg fun both => same both.1], fun r member wall => ?_⟩
      refine ⟨r, List.mem_filter.mpr ⟨member, ?_⟩, rfl⟩
      simp [SlotRecord.under, wall, Ne.symm same]
  | gap v =>
    refine .inl ⟨?_, .of_map rfl⟩
    rw [State.wall_mapWall]
    split <;> rfl

theorem Turn.climbs {s t : State} (h : Turn s t) (w : Nat) : Climbs w s t := by
  cases h with
  | walls x same => exact .inl ⟨(same w).2.1, .of_map rfl⟩
  | fault => exact .inl ⟨rfl, .of_slots rfl⟩
  | records x same => exact .inl ⟨rfl, .of_slots (SlotRecord.map_slot_of_core same)⟩
  | placing _ placed => exact .of_frame placed.frame (by decide)
  | seats i p =>
    obtain ⟨map, walls⟩ := s.seat_map p.target p.tag i Placement.seat
    refine .inl ⟨by rw [State.wall, walls, State.wall], ?_⟩
    unfold SlotsStay
    rw [map]
    rcases s.ownInsert_records p.target with same | ⟨r, -, -, -, records, -⟩
    · rw [same]; exact fun r member _ => ⟨r, member, rfl⟩
    · rw [records]; exact fun x member _ => mem_insertRecord_slot r member
  | loses u lost => exact (Climbs.of_frame lost.frame (by decide)).trans_frame u.yieldAnnounced_frame (by decide)
  | leaves c => exact .of_frame (s.causeLeaves_frame c) (by decide)
  | renames station => exact .of_frame (s.nameConflict_frame station) (by decide)
  | relaxes new _ better => exact .of_frame (s.relax_frame better) (by decide)
  | maps u mapped => exact (mapped.climbs w).trans_frame u.failTaken_frame (by decide)
  | _ => exact .inl ⟨rfl, .of_map rfl⟩

/-- A wall that climbs, its definition standing, moves on as before. -/
theorem WallMove.climb {c : Instr} {w : Nat} {s t u : State} (h : WallMove c w s t) (climbs : Climbs w t u)
    (same : (u.wall w).definition = (t.wall w).definition) : WallMove c w s u := by
  refine ⟨?_, same ▸ h.defined, same ▸ h.definition, fun level => ?_⟩
  · rcases climbs with ⟨level, -⟩ | higher
    · exact level ▸ h.rises
    · exact h.rises.trans higher.le
  · rcases climbs with ⟨equal, stay⟩ | higher
    · intro r member wall
      obtain ⟨x, hx, slot⟩ := h.slots (equal.symm.trans level) r member wall
      obtain ⟨y, hy, slot'⟩ := stay x hx (slot ▸ wall)
      exact ⟨y, hy, slot'.trans slot⟩
    · have := h.rises
      omega

theorem Atom.keeps_wallMove {c : Instr} {w : Nat} {s t u : State} (h : Atom c t u) (off : c ≠ .powerOff)
    (cold : (∃ i, c = .restartEnd i) → t.poweredOff = false) (move : WallMove c w s t) :
    WallMove c w s u := by
  have framed {l : List Block} {v : State} (frame : Frame l t v)
      (untouched : Block.walls ∉ l ∧ Block.map ∉ l) : WallMove c w s v := by
    have walls : v.walls = t.walls := frame .walls untouched.1
    exact move.climb (.of_frame frame untouched) (by rw [State.wall, walls, State.wall])
  cases h with
  | firms own => exact framed (t.firm_frame _ _ _ _) (by decide)
  | defines f d request _ free =>
    by_cases mine : f.wall.toNat = w ∧ w < t.walls.length
    · obtain ⟨rfl, lt⟩ := mine
      have height : ((t.mapWall f.wall.toNat fun p => p.define d).wall f.wall.toNat).solidHeight
          = (t.wall f.wall.toNat).solidHeight := by
        rw [State.wall_mapWall, if_pos ⟨rfl, lt⟩, WallPlace.define, if_pos move.defined]
      have empty := free move.defined
      simp only [State.replaceable, Bool.and_eq_true, List.all_eq_true, bne_iff_ne, beq_iff_eq] at empty
      obtain ⟨none_there, zero⟩ := empty
      have level : (s.wall f.wall.toNat).solidHeight = 0 := Nat.le_zero.mp (zero ▸ move.rises)
      refine ⟨height ▸ move.rises, ?_, .inr ⟨⟨f, request, rfl⟩, level, fun r member wall => ?_⟩,
        fun same => move.slots (height.symm.trans same)⟩
      · rw [State.wall_mapWall, if_pos ⟨rfl, lt⟩, WallPlace.define_defined]
        rfl
      · obtain ⟨x, hx, slot⟩ := move.slots (zero.trans level.symm) r member wall
        exact none_there x hx (slot ▸ wall)
    · have same : (t.mapWall f.wall.toNat fun p => p.define d).wall w = t.wall w := by
        rw [State.wall_mapWall, if_neg mine]
      exact move.climb (.inl ⟨by rw [same], .of_map rfl⟩) (by rw [same])
  | restarts cause hold =>
    have kept := framed t.beginRestart_frame (by decide)
    exact ⟨kept.rises, kept.defined, kept.definition, kept.slots⟩
  | off hold command => exact absurd command off
  | cold i command _ powerless => simp [cold ⟨i, command⟩] at powerless
  | warms i =>
    have same := t.warmKept_wall i w
    exact move.climb (.inl ⟨by rw [same]; rfl, .of_map rfl⟩) (by rw [same]; rfl)
  | _ => exact move.climb (.inl ⟨rfl, .of_map rfl⟩) rfl

/-- Settles O47: a wall's height moves only up, and SET-WALL takes a defined wall only while it is empty. -/
theorem solidHeightNeverDecreases : Obligations.SolidHeightNeverDecreases := by
  intro c s t w d h off cold defined
  have start : WallMove c w s s :=
    ⟨le_rfl, by rw [defined]; rfl, .inl rfl, fun _ r member _ => ⟨r, member, rfl⟩⟩
  obtain ⟨-, rises, stays, definition, -⟩ := exec_keeps (P := fun u => Timed c s u ∧ WallMove c w s u)
    (fun _ _ turn ⟨timed, move⟩ => ⟨turn.keeps_timed timed, move.climb (turn.climbs w) (turn.sameGround.1 w)⟩)
    (fun u _ atom ⟨timed, move⟩ => ⟨atom.keeps_timed timed, atom.keeps_wallMove off (fun ends => by
      by_contra held
      exact cold ⟨ends, timed.off ends (by simpa using held)⟩) move⟩)
    h ⟨⟨rfl, .inl rfl, fun _ => id⟩, start⟩
  refine ⟨rises, ?_⟩
  rcases definition with same | ⟨request, level, empty⟩
  · exact .inl (same.trans defined)
  · exact .inr ⟨request, stays, level, empty⟩

end Sys2Proof.Machine

namespace Sys2Proof.Machine

/-! ### An evaluated head stays as it is (R44 to R51) -/

theorem Placement.changedTo_self (p : Placement) : p.changedTo p = p := by
  simp [Placement.changedTo]

theorem State.mapPlacement_self {s : State} {before after : List Placement} {p : Placement}
    {f : Placement → Placement} (queue : s.admission.queue = before ++ p :: after) (same : f p = p) :
    s.mapPlacement before.length f = s := by
  have kept : (s.mapPlacement before.length f).admission.queue = s.admission.queue := by
    rw [State.mapPlacement_queue rfl queue, same, p.changedTo_self, queue]
  have admission : (s.mapPlacement before.length f).admission = s.admission := by
    have limit : (s.mapPlacement before.length f).admission.supportLimit = s.admission.supportLimit := rfl
    exact congrArg₂ Admission.mk kept limit
  exact congrArg (fun a => { s with admission := a }) admission

theorem State.evalHead_of_closed {s : State} (closed : s.admissionOpen = false) : s.evalHead = s := by
  rw [State.evalHead, closed]
  rfl

theorem State.evalHead_of_no_head {s : State} (absent : s.headIndex = none) : s.evalHead = s := by
  have none_first (k : Nat) : State.evalHeads k s = s := by
    cases k with
    | zero => rfl
    | succ k => rw [State.evalHeads, absent]
  unfold State.evalHead
  split
  · exact none_first _
  · rfl

/-- A head that waits, changed at its place, leaves admission open. -/
theorem State.admissionOpen_mapPlacement {s : State} {before after : List Placement} {p : Placement}
    {f : Placement → Placement} (opened : s.admissionOpen = true)
    (queue : s.admission.queue = before ++ p :: after) (next : (f p).state.closes = false) :
    (s.mapPlacement before.length f).admissionOpen = true := by
  simp only [State.admissionOpen, Bool.and_eq_true, Bool.not_eq_true', List.any_eq_false] at opened ⊢
  obtain ⟨closed, room⟩ := opened
  refine ⟨fun y member => ?_, room⟩
  rw [State.mapPlacement_queue rfl queue] at member
  rcases mem_of_change (p := p) member with rfl | hy
  · exact fun closes => Bool.false_ne_true (next.symm.trans closes)
  · exact closed y (queue ▸ hy)

/-- A head that waits on a support slot is judged the same again. -/
theorem State.judgeHead_support {s : State} {p x : Placement} {slot : Slot} (target : x.target = p.target)
    (judged : s.judgeHead p = .support slot) : s.judgeHead x = .support slot := by
  unfold State.judgeHead at judged ⊢
  rw [target]
  split at judged
  · cases judged
  · split at judged
    · cases judged
    · next vacant gap =>
      rw [if_neg vacant, if_neg gap]
      split at judged
      · exact judged
      · split at judged <;> cases judged

/-- A head stands evaluated: admission is closed, no head waits, or the head waits as its verdict says. -/
def State.Settled (s : State) : Prop :=
  s.admissionOpen = false ∨ s.headIndex = none
    ∨ ∃ before p after, s.admission.queue = before ++ p :: after ∧ p.state.waits = true
      ∧ (∀ q ∈ before, q.state.waits = false)
      ∧ ((∃ slot, s.judgeHead p = .support slot ∧ ∀ due, p.waitSupport slot due = p)
        ∨ ∃ r station, s.judgeHead p = .wait r station ∧ p.waitCells r station = p)

/-- Evaluating a settled head changes nothing. -/
theorem State.Settled.evalHead {s : State} (settled : s.Settled) : s.evalHead = s := by
  rcases settled with closed | absent | ⟨before, p, after, queue, head, first, verdict⟩
  · exact State.evalHead_of_closed closed
  · exact State.evalHead_of_no_head absent
  · cases opened : s.admissionOpen with
    | false => exact State.evalHead_of_closed opened
    | true =>
      rw [State.evalHead_verdict opened queue first head]
      rcases verdict with ⟨slot, judged, same⟩ | ⟨r, station, judged, same⟩
      · rw [judged]; exact State.mapPlacement_self queue (same _)
      · rw [judged]; exact State.mapPlacement_self queue same

/-- A head announced closes admission. -/
theorem State.announceHead_closed {s : State} {before after : List Placement} {p : Placement}
    (queue : s.admission.queue = before ++ p :: after) :
    ((s.announceHead before.length p).refreshContested).admissionOpen = false := by
  have kept : (s.announceHead before.length p).refreshContested.admission
      = (s.announceHead before.length p).admission := State.refreshContested_frame _ .admission (by decide)
  have served : s.serveOwed.admission = s.admission := s.serveOwed_frame .admission (by decide)
  have announced : (s.announceHead before.length p).admission.queue
      = before ++ p.changedTo p.announce :: after := State.mapPlacement_queue (u := s.withAnnounced p) served queue _
  simp only [State.admissionOpen, kept, announced, Bool.and_eq_false_iff]
  exact .inl (by simp [Placement.changedTo, Placement.announce, PlacementState.closes])

/-- An evaluation leaves a settled head. -/
theorem State.evalHead_settled (s : State) : s.evalHead.Settled := by
  induction waiting : s.admission.queue.countP (fun p => p.state.waits) using Nat.strong_induction_on
    generalizing s with
  | _ n ih =>
  cases opened : s.admissionOpen with
  | false =>
    rw [State.evalHead_of_closed opened]
    exact .inl opened
  | true =>
  cases headed : s.headIndex with
  | none =>
    rw [State.evalHead_of_no_head headed]
    exact .inr (.inl headed)
  | some i =>
  obtain ⟨before, p, after, queue, rfl, head, first⟩ := State.headIndex_eq.mp headed
  rw [State.evalHead_verdict opened queue first head]
  cases judged : s.judgeHead p with
  | fail r =>
    refine ih _ ?_ _ rfl
    have failed : (p.changedTo (p.fail r)).state.waits = false := rfl
    rw [State.mapPlacement_queue rfl queue, ← waiting, queue]
    simp only [List.countP_append, List.countP_cons, head, failed]
    simp
  | support slot =>
    have again : (s.mapPlacement before.length fun p => p.waitSupport slot s.supportDue).judgeHead
        (p.changedTo (p.waitSupport slot s.supportDue)) = .support slot :=
      State.judgeHead_support (s := s) (p := p) rfl judged
    exact .inr (.inr ⟨before, _, after, State.mapPlacement_queue rfl queue _, rfl, first,
      .inl ⟨slot, again, fun _ => rfl⟩⟩)
  | wait r station =>
    have again : (s.mapPlacement before.length fun p => p.waitCells r station).judgeHead
        (p.changedTo (p.waitCells r station)) = .wait r station := judged
    exact .inr (.inr ⟨before, _, after, State.mapPlacement_queue rfl queue _, rfl, first,
      .inr ⟨r, station, again, rfl⟩⟩)
  | announce => exact .inl (State.announceHead_closed queue)

theorem State.evalHead_idem (s : State) : s.evalHead.evalHead = s.evalHead := s.evalHead_settled.evalHead

theorem State.judgeHead_announce_iff {s : State} {p : Placement} : s.judgeHead p = .announce ↔
    s.readSlot p.target = .vacant ∧ (s.wall p.target.wall).gap = false
      ∧ s.missingSupport p.target = none ∧ s.failedGate p = none := by
  refine ⟨State.judgeHead_announce, fun ⟨vacant, gap, supports, gates⟩ => ?_⟩
  simp [State.judgeHead, vacant, gap, supports, gates]

theorem State.blockingStation_eq_none {s : State} {cells : List Nat} {precedence : Nat} :
    s.blockingStation cells precedence = none ↔
      ∀ e ∈ s.claims.peers, e.blocks cells precedence = false := by
  simp [State.blockingStation, List.filter_eq_nil_iff]

/-- Settles O49: a verdict given again changes nothing, and an announce closes admission. -/
theorem headEvaluationSettles : Obligations.HeadEvaluationSettles := by
  refine ⟨State.evalHead_idem, fun s p => ?_⟩
  rw [State.judgeHead_announce_iff, State.failedGate_eq_none, State.blockingStation_eq_none]
  have free (e : PeerEntry) : e.blocks p.cells (s.precedenceOf p) = false ↔
      (sharesCell p.cells e.cells = true →
        e.state = .tentative ∧ p.target.course * 32 + s.cfg.station ≤ e.precedence) := by
    cases shares : sharesCell p.cells e.cells with
    | false => simp [PeerEntry.blocks, shares]
    | true =>
      simp [PeerEntry.blocks, shares, State.precedenceOf]
      exact fun _ => decide_eq_false_iff_not.trans not_lt
  have room : s.ownRoom = true ↔ s.map.records.length < 1024 := decide_eq_true_iff
  simp only [State.GatesHold, free, room]
  tauto

end Sys2Proof.Machine

namespace Sys2Proof
open BitVec

/-! ### Multi-octet numbers and their octets (file 11) -/

theorem word16_octets16 (w : Word16) : word16 (w.extractLsb' 8 8) (w.extractLsb' 0 8) = w :=
  extractLsb'_append_extractLsb' (w := 8) (len := 8)

theorem octets16_word16 (hi lo : Octet) : octets16 (word16 hi lo) = [hi, lo] := by
  have high : (word16 hi lo).extractLsb' 8 8 = hi := extractLsb'_append_eq_left
  have low : (word16 hi lo).extractLsb' 0 8 = lo := extractLsb'_append_eq_right
  rw [octets16, high, low]

theorem word24_octets24 (w : BitVec 24) :
    word24 (w.extractLsb' 16 8) (w.extractLsb' 8 8) (w.extractLsb' 0 8) = w := by
  have upper : w.extractLsb' 16 8 ++ w.extractLsb' 8 8 = w.extractLsb' 8 16 :=
    extractLsb'_append_extractLsb'_eq_extractLsb' rfl
  rw [word24, upper]
  exact extractLsb'_append_extractLsb' (w := 16) (len := 8)

theorem octets24_word24 (a b c : Octet) : octets24 (word24 a b c) = [a, b, c] := by
  have upper (start : Nat) : (word24 a b c).extractLsb' (start + 8) 8 = (a ++ b).extractLsb' start 8 :=
    (extractLsb'_append_eq_of_le (by omega)).trans (by rw [Nat.add_sub_cancel])
  have first : (word24 a b c).extractLsb' 16 8 = a := (upper 8).trans extractLsb'_append_eq_left
  have second : (word24 a b c).extractLsb' 8 8 = b := (upper 0).trans extractLsb'_append_eq_right
  have third : (word24 a b c).extractLsb' 0 8 = c := extractLsb'_append_eq_right
  rw [octets24, first, second, third]

theorem word32_octets32 (w : BitVec 32) :
    word32 (w.extractLsb' 24 8) (w.extractLsb' 16 8) (w.extractLsb' 8 8) (w.extractLsb' 0 8) = w := by
  have top : w.extractLsb' 24 8 ++ w.extractLsb' 16 8 = w.extractLsb' 16 16 :=
    extractLsb'_append_extractLsb'_eq_extractLsb' rfl
  have upper : w.extractLsb' 16 16 ++ w.extractLsb' 8 8 = w.extractLsb' 8 24 :=
    extractLsb'_append_extractLsb'_eq_extractLsb' rfl
  rw [word32, top, upper]
  exact extractLsb'_append_extractLsb' (w := 24) (len := 8)

theorem octets32_word32 (a b c d : Octet) : octets32 (word32 a b c d) = [a, b, c, d] := by
  have upper (start : Nat) :
      (word32 a b c d).extractLsb' (start + 8) 8 = (word24 a b c).extractLsb' start 8 :=
    (extractLsb'_append_eq_of_le (by omega)).trans (by rw [Nat.add_sub_cancel]; rfl)
  have octets := octets24_word24 a b c
  simp only [octets24, List.cons.injEq, and_true] at octets
  obtain ⟨first, second, third⟩ := octets
  have fourth : (word32 a b c d).extractLsb' 0 8 = d := extractLsb'_append_eq_right
  rw [octets32, upper 16, upper 8, upper 0, first, second, third, fourth]

/-! ### Lists of words and of entries -/

theorem words16_octetsOfWords (ws : List Word16) : words16 (octetsOfWords ws) = ws := by
  induction ws with
  | nil => rfl
  | cons w ws ih =>
    change words16 (w.extractLsb' 8 8 :: w.extractLsb' 0 8 :: octetsOfWords ws) = w :: ws
    rw [words16, word16_octets16, ih]

theorem octetsOfWords_length (ws : List Word16) : (octetsOfWords ws).length = 2 * ws.length := by
  induction ws with
  | nil => rfl
  | cons w ws ih =>
    change (octets16 w ++ octetsOfWords ws).length = _
    simp only [List.length_append, ih, octets16, List.length_cons, List.length_nil]
    omega

/-- The words of an even number of octets. -/
theorem octetsOfWords_words16 (n : Nat) (l : List Octet) (even : l.length = 2 * n) :
    octetsOfWords (words16 l) = l ∧ (words16 l).length = n := by
  induction n generalizing l with
  | zero => rw [List.eq_nil_of_length_eq_zero even]; exact ⟨rfl, rfl⟩
  | succ n ih =>
    match l, even with
    | hi :: lo :: rest, even =>
      obtain ⟨same, count⟩ := ih rest (by simpa [Nat.mul_succ] using even)
      refine ⟨?_, congrArg (· + 1) count⟩
      change octets16 (word16 hi lo) ++ octetsOfWords (words16 rest) = _
      rw [octets16_word16, same]; rfl
    | [], even | [_], even => simp only [List.length_cons, List.length_nil] at even; omega

theorem decodeEntries_encodeEntry (es : List LaidEntry) :
    decodeEntries (es.flatMap encodeEntry) = es := by
  induction es with
  | nil => rfl
  | cons e es ih =>
    obtain ⟨course, pos, maturity⟩ := e
    change _ :: decodeEntries (es.flatMap encodeEntry) = _
    rw [word16_octets16, word24_octets24, ih]

theorem encodeEntry_length (es : List LaidEntry) : (es.flatMap encodeEntry).length = 6 * es.length := by
  induction es with
  | nil => rfl
  | cons e es ih =>
    rw [List.flatMap_cons, List.length_append, ih]
    simp only [encodeEntry, octets16, octets24, List.length_cons, List.length_append, List.length_nil]
    omega

/-- The entries of octets that are six times as many. -/
theorem encodeEntry_decodeEntries (n : Nat) (l : List Octet) (sixes : l.length = 6 * n) :
    (decodeEntries l).flatMap encodeEntry = l ∧ (decodeEntries l).length = n := by
  induction n generalizing l with
  | zero => rw [List.eq_nil_of_length_eq_zero sixes]; exact ⟨rfl, rfl⟩
  | succ n ih =>
    match l, sixes with
    | c :: p1 :: p0 :: a :: b :: d :: rest, sixes =>
      obtain ⟨same, count⟩ := ih rest (by simpa [Nat.mul_succ] using sixes)
      refine ⟨?_, congrArg (· + 1) count⟩
      change c :: (octets16 (word16 p1 p0) ++ octets24 (word24 a b d))
        ++ (decodeEntries rest).flatMap encodeEntry = _
      rw [octets16_word16, octets24_word24, same]; rfl
    | [], sixes | [_], sixes | [_, _], sixes | [_, _, _], sixes | [_, _, _, _], sixes
    | [_, _, _, _, _], sixes =>
      simp only [List.length_cons, List.length_nil] at sixes; omega

/-! ### Requests (R187) -/

theorem RequestKind.ofCode_code (k : RequestKind) : RequestKind.ofCode k.code = some k := by
  cases k <;> rfl

theorem RequestKind.code_of_ofCode {o : Octet} {k : RequestKind} (h : RequestKind.ofCode o = some k) :
    k.code = o := by
  unfold RequestKind.ofCode at h
  simpa using List.find?_some h

theorem count_of_le {n : Nat} (h : n ≤ 255) : (BitVec.ofNat 8 n).toNat = n := by
  rw [BitVec.toNat_ofNat]; omega

theorem decodePlace_requestBody (f : PlaceFields) (fits : f.fits = true) :
    decodePlace (Instr.place f).requestBody = some (.place f) := by
  have few : f.cells.length ≤ 44 := of_decide_eq_true fits
  change decodePlace (_ :: _ :: _ :: _ :: _ :: _ :: _ :: octetsOfWords f.cells) = _
  rw [decodePlace, if_pos (by rw [octetsOfWords_length, count_of_le (by omega)]), word16_octets16,
    words16_octetsOfWords]

/-- The body of a request that fits a frame decodes to it. -/
theorem decodeBody_requestBody {r : Instr} {k : RequestKind} (kind : r.requestKind = some k)
    (fits : r.wellFormed = true) : decodeBody k r.requestBody = some r := by
  cases r <;> simp only [Instr.requestKind, Option.some.injEq, reduceCtorEq] at kind <;> subst kind
  case place f => exact decodePlace_requestBody f fits
  case setSite f =>
    change some (Instr.setSite _) = _
    simp only [word16_octets16]
  case setWall f =>
    change some (Instr.setWall _) = _
    simp only [word16_octets16, word32_octets32]
  case setCure cls datum threshold =>
    change some (Instr.setCure _ _ _) = _
    simp only [word16_octets16, word32_octets32]
  case setLimits f =>
    change some (Instr.setLimits _) = _
    simp only [word16_octets16]
  case readSlot wall course pos =>
    change some (Instr.readSlot _ _ _) = _
    rw [word16_octets16]
  all_goals rfl

theorem decodeRequest_encodeRequest {r : Instr} {octets : List Octet} (fits : r.wellFormed = true)
    (encoded : encodeRequest r = some octets) : decodeRequest octets = some r := by
  obtain ⟨k, kind, rfl⟩ := Option.map_eq_some_iff.1 encoded
  change (RequestKind.ofCode k.code).bind _ = _
  rw [RequestKind.ofCode_code]
  exact decodeBody_requestBody kind fits

theorem requestBody_decodePlace {body : List Octet} {r : Instr} (h : decodePlace body = some r) :
    r.requestKind = some .place ∧ r.requestBody = body := by
  unfold decodePlace at h
  split at h
  next tag wall course p1 p0 limit n rest =>
    split at h
    next even =>
      cases h
      obtain ⟨same, count⟩ := octetsOfWords_words16 n.toNat rest even
      refine ⟨rfl, ?_⟩
      simp only [Instr.requestBody, octets16_word16, same, count, BitVec.ofNat_toNat,
        BitVec.setWidth_eq]
      rfl
    next => cases h
  next => cases h

theorem decodeBare_eq_some {i r : Instr} {body : List Octet} (h : decodeBare i body = some r) :
    body = [] ∧ r = i := by
  unfold decodeBare at h
  split at h
  · exact ⟨rfl, (Option.some.inj h).symm⟩
  · cases h

theorem decodeOctet_eq_some {make : Octet → Instr} {r : Instr} {body : List Octet}
    (h : decodeOctet make body = some r) : ∃ o, body = [o] ∧ r = make o := by
  unfold decodeOctet at h
  split at h
  next o => exact ⟨o, rfl, (Option.some.inj h).symm⟩
  next => cases h

/-- A body that decodes is that of the request it decodes to. -/
theorem requestBody_decodeBody {k : RequestKind} {body : List Octet} {r : Instr}
    (h : decodeBody k body = some r) : r.requestKind = some k ∧ r.requestBody = body := by
  cases k
  case place => exact requestBody_decodePlace h
  case setSite =>
    simp only [decodeBody, decodeSetSite] at h
    split at h
    · cases h; exact ⟨rfl, by simp only [Instr.requestBody, octets16_word16]; rfl⟩
    · cases h
  case setWall =>
    simp only [decodeBody, decodeSetWall] at h
    split at h
    · cases h; exact ⟨rfl, by simp only [Instr.requestBody, octets16_word16, octets32_word32]; rfl⟩
    · cases h
  case setCure =>
    simp only [decodeBody, decodeSetCure] at h
    split at h
    · cases h; exact ⟨rfl, by simp only [Instr.requestBody, octets16_word16, octets32_word32]; rfl⟩
    · cases h
  case setLimits =>
    simp only [decodeBody, decodeSetLimits] at h
    split at h
    · cases h; exact ⟨rfl, by simp only [Instr.requestBody, octets16_word16]; rfl⟩
    · cases h
  case readSlot =>
    simp only [decodeBody, decodeReadSlot] at h
    split at h
    · cases h; exact ⟨rfl, by simp only [Instr.requestBody, octets16_word16]; rfl⟩
    · cases h
  case start | stop | resume | readSite =>
    obtain ⟨rfl, rfl⟩ := decodeBare_eq_some h
    exact ⟨rfl, rfl⟩
  case withdraw | seated | clear | survey =>
    obtain ⟨o, rfl, rfl⟩ := decodeOctet_eq_some h
    exact ⟨rfl, rfl⟩

theorem encodeRequest_decodeRequest {octets : List Octet} {r : Instr}
    (h : decodeRequest octets = some r) : encodeRequest r = some octets := by
  unfold decodeRequest at h
  split at h
  · cases h
  next kind body =>
    obtain ⟨k, named, decoded⟩ := Option.bind_eq_some_iff.1 h
    obtain ⟨same, spelled⟩ := requestBody_decodeBody decoded
    rw [encodeRequest, same, Option.map_some, spelled, RequestKind.code_of_ofCode named]

/-! ### Notices (R185) -/

theorem decodeNotice_body {n : Notice} (fits : n.wellFormed = true) :
    decodeNotice n.kindCode n.body = some n := by
  cases n with
  | claim number state precedence hold cells =>
    have few : cells.length ≤ 35 := of_decide_eq_true fits
    change decodeClaim (_ :: _ :: _ :: _ :: _ :: _ :: _ :: octetsOfWords cells) = _
    rw [decodeClaim, if_pos (by rw [octetsOfWords_length, count_of_le (by omega)]), word16_octets16,
      word16_octets16, words16_octetsOfWords]
  | release number => rfl
  | laid wall height entries =>
    simp only [Notice.wellFormed, Bool.and_eq_true, decide_eq_true_eq] at fits
    obtain ⟨named, few⟩ := fits
    have count := count_of_le (n := entries.length) (by omega)
    change decodeLaid (_ :: _ :: _ :: entries.flatMap encodeEntry) = _
    rw [decodeLaid, if_pos ⟨by rw [encodeEntry_length, count], named, by rw [count]; exact few⟩,
      decodeEntries_encodeEntry]
  | survey wall =>
    simp only [Notice.wellFormed, Bool.or_eq_true, decide_eq_true_eq, beq_iff_eq] at fits
    exact if_pos fits

theorem body_decodeClaim {body : List Octet} {n : Notice} (h : decodeClaim body = some n) :
    n.kindCode = 1 ∧ n.body = body := by
  unfold decodeClaim at h
  split at h
  next number state p1 p0 h1 h0 count rest =>
    split at h
    next even =>
      cases h
      obtain ⟨same, counted⟩ := octetsOfWords_words16 count.toNat rest even
      refine ⟨rfl, ?_⟩
      simp only [Notice.body, octets16_word16, same, counted, BitVec.ofNat_toNat, BitVec.setWidth_eq]
      rfl
    next => cases h
  next => cases h

theorem body_decodeLaid {body : List Octet} {n : Notice} (h : decodeLaid body = some n) :
    n.kindCode = 3 ∧ n.body = body := by
  unfold decodeLaid at h
  split at h
  next wall height count rest =>
    split at h
    next fits =>
      cases h
      obtain ⟨same, counted⟩ := encodeEntry_decodeEntries count.toNat rest fits.1
      refine ⟨rfl, ?_⟩
      simp only [Notice.body, same, counted, BitVec.ofNat_toNat, BitVec.setWidth_eq]
      rfl
    next => cases h
  next => cases h

theorem body_decodeNotice {kind : Octet} {body : List Octet} {n : Notice}
    (h : decodeNotice kind body = some n) : n.kindCode = kind ∧ n.body = body := by
  unfold decodeNotice at h
  split at h
  next first => rw [first]; exact body_decodeClaim h
  next =>
    split at h
    next second =>
      rw [second]
      unfold decodeRelease at h
      split at h
      · cases h; exact ⟨rfl, rfl⟩
      · cases h
    next =>
      split at h
      next third => rw [third]; exact body_decodeLaid h
      next =>
        split at h
        next fourth =>
          rw [fourth]
          unfold decodeSurvey at h
          split at h
          · split at h
            · cases h; exact ⟨rfl, rfl⟩
            · cases h
          · cases h
        next => cases h

/-- Settles O37: the layouts of requests and notices are read back octet by octet, each way. -/
theorem encodedFramesDecode : Obligations.EncodedFramesDecode := by
  refine ⟨fun r request fits => ?_, fun _ => decodeNotice_body, fun _ _ => encodeRequest_decodeRequest,
    fun _ _ _ => body_decodeNotice⟩
  obtain ⟨k, kind⟩ := Option.isSome_iff_exists.1 request
  have encoded : encodeRequest r = some (k.code :: r.requestBody) := by rw [encodeRequest, kind]; rfl
  exact ⟨_, encoded, decodeRequest_encodeRequest fits encoded⟩

end Sys2Proof

namespace Sys2Proof.Machine

/-! ### Requests answered -/

section
variable {s : State} {r : Instr} {k : RequestKind} {run : State → Reply}

/-- A request that its port takes is answered by what its checks and effect make of it. -/
theorem State.onRequest_reply (ready : s.readyFor r) {t : State} {code : AnswerCode}
    {content : AnswerContent}
    (reply : run (s.taken r) = { state := t, code := code, content := content }) :
    s.onRequest r k run = .next (t.produce k.code code content) := by
  rw [State.onRequest_ready ready, reply]

/-- A request that is refused changes the port alone. -/
theorem State.onRequest_refused (ready : s.readyFor r) {code : AnswerCode}
    (reply : run (s.taken r) = (s.taken r).refuse code) :
    s.onRequest r k run = .next (s.produce k.code code .plain) := by
  rw [State.onRequest_reply ready reply]; rfl

theorem State.onRequest_accepted (ready : s.readyFor r) {t : State}
    (reply : run (s.taken r) = t.accept) : s.onRequest r k run = .next (t.produce k.code .ok .plain) :=
  State.onRequest_reply ready reply

end

/-- Settles O1: `step` takes the front command, and an idle step the due event or a millisecond. -/
theorem stepTakesTheFrontCommand : Obligations.StepTakesTheFrontCommand := by
  refine ⟨fun c s rest front => ?_, fun s c none due => ?_, fun s none due powered => ?_⟩
  · rw [step, front]; rfl
  · rw [step, none]; simp only [State.idle, due]
  · have idle : step s = s.idle := by rw [step, none]
    rw [idle, State.idle, due, State.tick, powered]; rfl

/-! ### The end of a transfer (R163, R164) -/

theorem State.takeFrame_nothing {s : State} {octets : List Octet} (null : octets.headD 0 = 0) :
    s.takeFrame octets = s := by
  have none : announced octets = 0 := by rw [announced, null]; rfl
  simp only [State.takeFrame, none, if_true]

/-- The octets shifted in and out decide whether a transfer is complete (R161, log 6). -/
theorem transferComplete_iff {frame octets : List Octet} :
    transferComplete frame octets = true ↔
      (octets = [] ∧ frame = [0])
        ∨ (octets ≠ [] ∧ frame.length ≤ octets.length ∧ (octets.headD 0).toNat + 1 ≤ octets.length) := by
  cases octets with
  | nil => simp [transferComplete, nullFrame]
  | cons o os => simp [transferComplete, announced]

theorem exec_transferEnd {s : State} {item : OutItem} {frame octets : List Octet}
    (running : s.inRestart = false) (selected : s.port.selected = true)
    (transfer : s.port.transfer = some { item := item, frame := frame }) :
    exec (.transferEnd octets) s
      = .next (((s.withTransfer false none).settle item (transferComplete frame octets)).takeFrame
        octets) := by
  change execTransferEnd octets s = _
  simp only [execTransferEnd, selected, transfer, running, if_true]
  rfl

/-- Settles O3: the item is settled by `State.settle`, then `State.takeFrame` treats the request. -/
theorem transferEndSettlesTheItem : Obligations.TransferEndSettlesTheItem := by
  refine ⟨fun s item frame octets running selected transfer => ?_, fun s octets => s.takeFrame_nothing⟩
  dsimp only
  rw [exec_transferEnd running selected transfer, ← transferComplete_iff]
  refine ⟨fun whole => ?_, fun cut => ?_⟩
  · rw [whole]
    refine ⟨?_, ?_, ?_⟩
    · rintro rfl; rfl
    · rintro i rfl; rfl
    · rintro (rfl | rfl | rfl | rfl | ⟨i, rfl⟩) <;> rfl
  · rw [Bool.eq_false_iff.2 cut]
    refine ⟨?_, ?_, ?_, ?_, ?_⟩
    · rintro (rfl | rfl) <;> rfl
    · rintro rfl; rfl
    · rintro rfl; rfl
    · rintro rfl; rfl
    · rintro i x rfl; rfl

theorem exec_transferEnd_null {s : State} {octets : List Octet} (running : s.inRestart = false)
    (selected : s.port.selected = true)
    (transfer : s.port.transfer = some { item := .null, frame := [0] }) :
    exec (.transferEnd octets) s = .next ((s.withTransfer false none).takeFrame octets) := by
  rw [exec_transferEnd running selected transfer]
  cases transferComplete [0] octets <;> rfl

theorem State.takeFrame_lost {s : State} {octets : List Octet} (some : 0 < announced octets)
    (lost : octets.length ≤ announced octets ∨ 96 < announced octets
      ∨ s.port.intake.isSome = true ∨ s.port.answer.isSome = true) :
    s.takeFrame octets = s.loseRequest := by
  unfold State.takeFrame
  simp only
  rw [if_neg (by omega)]
  split
  · rfl
  next fits =>
    simp only [Bool.or_eq_true, decide_eq_true_eq, not_or] at fits
    rw [if_pos]
    rcases lost with short | long | busy | full
    · omega
    · omega
    · rw [busy]; rfl
    · rw [full, Bool.or_true]

section
variable {s : State} {octets : List Octet}

/-- A whole frame at a free port that spells a request has it taken. -/
theorem State.takeFrame_read (named : 0 < announced octets) (short : announced octets ≤ 96)
    (whole : announced octets < octets.length) (intake : s.port.intake = none)
    (answer : s.port.answer = none) {r : Instr}
    (read : decodeRequest (octets.tail.take (announced octets)) = some r) :
    s.takeFrame octets = s.takeRequest r := by
  unfold State.takeFrame
  simp only
  rw [if_neg (by omega), if_neg (by simp; omega), if_neg (by rw [intake, answer]; decide)]
  simp only [read]

/-- A whole frame at a free port that spells no request is answered BAD_VALUE. -/
theorem State.takeFrame_unread (named : 0 < announced octets) (short : announced octets ≤ 96)
    (whole : announced octets < octets.length) (intake : s.port.intake = none)
    (answer : s.port.answer = none)
    (unread : decodeRequest (octets.tail.take (announced octets)) = none) :
    s.takeFrame octets =
      s.produce ((octets.tail.take (announced octets)).headD 0) .badValue .plain := by
  unfold State.takeFrame
  simp only
  rw [if_neg (by omega), if_neg (by simp; omega), if_neg (by rw [intake, answer]; decide)]
  simp only [unread]

end

/-- A request that needs no walk has its meaning at once. -/
theorem State.exec_eq_answerRequest {s : State} {r : Instr} {k : RequestKind}
    (request : r.requestKind = some k) (ready : s.readyFor r) : exec r s = .next (s.answerRequest r) := by
  cases r <;> simp only [Instr.requestKind, reduceCtorEq] at request
  all_goals exact State.onRequest_ready ready

/-- The values of R24 in their ranges. -/
def cureInRange (k : Octet) (datum : Word16) (threshold : BitVec 32) : Prop :=
  k.toNat ≤ 3 ∧ -80 ≤ datum.toInt ∧ datum.toInt ≤ 80 ∧ 1 ≤ threshold.toNat
    ∧ threshold.toNat ≤ 16777215

theorem State.cureRefusal_online {s : State} {k : Octet} {datum : Word16} {threshold : BitVec 32}
    (online : s.site.state.offline = false) : s.cureRefusal k datum threshold = some .badState := by
  rw [State.cureRefusal, online]; rfl

theorem State.cureRefusal_range {s : State} {k : Octet} {datum : Word16} {threshold : BitVec 32}
    (offline : s.site.state.offline = true) :
    (cureInRange k datum threshold → s.cureRefusal k datum threshold = none)
      ∧ (¬ cureInRange k datum threshold → s.cureRefusal k datum threshold = some .badValue) := by
  unfold State.cureRefusal cureInRange
  rw [offline, if_neg (by decide)]
  simp only [Bool.or_eq_true, decide_eq_true_eq]
  constructor
  · intro ranged
    rw [if_neg (by omega), if_neg (by omega), if_neg (by omega)]
  · intro out
    split
    · rfl
    split
    · rfl
    rw [if_pos (by omega)]

/-- A SET-CURE makes a walk exactly when its checks pass and it lowers its class's threshold (R24, R25). -/
theorem State.walksFor_iff {s : State} {r : Instr} :
    s.walksFor r = true ↔
      ∃ k datum threshold, r = .setCure k datum threshold ∧ s.site.state.offline = true
        ∧ k.toNat ≤ 3 ∧ -80 ≤ datum.toInt ∧ datum.toInt ≤ 80 ∧ 1 ≤ threshold.toNat
        ∧ threshold.toNat ≤ 16777215 ∧ threshold.toNat < (s.cureClass k.toNat).threshold := by
  constructor
  · intro walks
    cases r <;> simp only [State.walksFor, Bool.false_eq_true] at walks
    case setCure k datum threshold =>
      simp only [Bool.and_eq_true, decide_eq_true_eq, Option.isNone_iff_eq_none] at walks
      obtain ⟨passed, lowered⟩ := walks
      have offline : s.site.state.offline = true := by
        by_contra online
        rw [State.cureRefusal_online (by simpa using online)] at passed
        cases passed
      have ranged : cureInRange k datum threshold := by
        by_contra out
        rw [(State.cureRefusal_range offline).2 out] at passed
        cases passed
      obtain ⟨cls, low, high, positive, bounded⟩ := ranged
      exact ⟨k, datum, threshold, rfl, offline, cls, low, high, positive, bounded, lowered⟩
  · rintro ⟨k, datum, threshold, rfl, offline, cls, low, high, positive, bounded, lowered⟩
    simp only [State.walksFor, Bool.and_eq_true, decide_eq_true_eq]
    rw [(State.cureRefusal_range offline).1 ⟨cls, low, high, positive, bounded⟩]
    exact ⟨rfl, lowered⟩

/-- The octets of a request frame that fits: its length is announced, and its request decodes. -/
theorem requestFrame_spec {r : Instr} {frame : List Octet} (fits : r.wellFormed = true)
    (framed : requestFrame r = some frame) :
    ∃ (k : RequestKind) (request : List Octet), r.requestKind = some k
      ∧ frame = BitVec.ofNat 8 request.length :: request ∧ 0 < request.length
      ∧ request.length ≤ 96 ∧ decodeRequest request = some r := by
  obtain ⟨request, encoded, rfl⟩ := Option.map_eq_some_iff.1 framed
  have decoded := decodeRequest_encodeRequest fits encoded
  obtain ⟨k, kind, rfl⟩ := Option.map_eq_some_iff.1 encoded
  refine ⟨k, _, kind, rfl, Nat.succ_pos _, ?_, decoded⟩
  cases r <;> simp only [Instr.requestKind, reduceCtorEq] at kind
  case place f =>
    have few : f.cells.length ≤ 44 := of_decide_eq_true fits
    change (octetsOfWords f.cells).length + 8 ≤ 96
    rw [octetsOfWords_length]; omega
  all_goals exact Nat.le_of_ble_eq_true rfl

/-- Settles O4: a whole request frame decodes to its request, which `State.takeRequest` treats; any other
whole frame decodes to none. -/
theorem transferEndTakesTheRequest : Obligations.TransferEndTakesTheRequest := by
  intro s octets running selected transfer
  dsimp only
  rw [exec_transferEnd_null running selected transfer]
  refine ⟨fun r frame fill fits framed spelled => ?_, fun low high short alien => ⟨?_, ?_⟩, ?_, ?_, ?_⟩
  · obtain ⟨k, request, kind, rfl, positive, bounded, decoded⟩ := requestFrame_spec fits framed
    have count : announced octets = request.length := by
      rw [spelled]; exact count_of_le (by omega)
    have carried : octets.tail.take (announced octets) = request := by
      rw [count, spelled]; exact List.take_left
    have shorter : announced octets < octets.length := by
      rw [count, spelled]; simp only [List.cons_append, List.length_cons, List.length_append]; omega
    refine ⟨fun intake answer => ?_, fun busy => ?_⟩
    · rw [State.takeFrame_read (s := s.withTransfer false none) (by omega) (by omega) shorter intake answer
        (carried.symm ▸ decoded)]
      refine ⟨fun still => ?_, fun walks => ?_⟩
      · have ready : (s.withTransfer false none).readyFor r := by
          refine ⟨running, ?_⟩
          simp [ArmPort.takes, intake, answer]
        have instant : (s.withTransfer false none).takeRequest r
            = (s.withTransfer false none).answerRequest r := by
          have still' : (s.withTransfer false none).walksFor r = false := still
          rw [State.takeRequest, still']; rfl
        exact (congrArg _ instant).trans (State.exec_eq_answerRequest kind ready).symm
      · have walks' : (s.withTransfer false none).walksFor r = true := walks
        simp only [State.takeRequest, walks', if_true]
        rfl
    · rw [State.takeFrame_lost (s := s.withTransfer false none) (by omega) (.inr (.inr busy))]
      rfl
  · intro intake answer
    have unread : decodeRequest (octets.tail.take (announced octets)) = none := by
      cases decoded : decodeRequest (octets.tail.take (announced octets)) with
      | none => rfl
      | some r => exact absurd (encodeRequest_decodeRequest decoded) (alien r)
    have first : (octets.tail.take (announced octets)).headD 0 = octets.getD 1 0 := by
      match octets, short with
      | _ :: o :: rest, _ =>
        have count : announced (_ :: o :: rest) = _ + 1 := (Nat.succ_pred_eq_of_pos low).symm
        rw [count]; rfl
      | [_], short => simp at short low; omega
      | [], short => simp at short
    rw [State.takeFrame_unread (s := s.withTransfer false none) low high short intake answer unread,
      first]
    simp only [State.produce, State.withTransfer, intake]
  · intro busy
    rw [State.takeFrame_lost (s := s.withTransfer false none) low (.inr (.inr busy))]
    rfl
  · intro low short
    rw [State.takeFrame_lost (s := s.withTransfer false none) low (.inl short)]
    rfl
  · intro long
    rw [State.takeFrame_lost (s := s.withTransfer false none) (Nat.zero_lt_of_lt long) (.inr (.inl long))]
    rfl
  · exact fun r => State.walksFor_iff

end Sys2Proof.Machine

namespace Sys2Proof.Machine

/-! ### The requests that read (R170, R171) -/

section
variable {s : State} {slot : Slot}

theorem State.readSlot_retired (below : slot.course < (s.wall slot.wall).solidHeight) :
    s.readSlot slot = .retired := if_pos below

theorem State.readSlot_vacant (above : (s.wall slot.wall).solidHeight ≤ slot.course)
    (none : s.recordAt slot = none) : s.readSlot slot = .vacant := by
  rw [State.readSlot, if_neg (by omega), none]

theorem State.readSlot_set (above : (s.wall slot.wall).solidHeight ≤ slot.course) {r : SlotRecord}
    (found : s.recordAt slot = some r) (set : r.state = .set) : s.readSlot slot = .set := by
  simp only [State.readSlot, if_neg (Nat.not_lt.2 above), found, set]

theorem State.readSlot_wet (above : (s.wall slot.wall).solidHeight ≤ slot.course) {r : SlotRecord}
    (found : s.recordAt slot = some r) {stamp : Accum} (wet : r.state = .wet stamp) :
    s.readSlot slot = .wet := by
  simp only [State.readSlot, if_neg (Nat.not_lt.2 above), found, wet]

theorem State.wallClass_of_definition {w : Nat} {d : WallDef} (defined : (s.wall w).definition = some d) :
    s.wallClass w = s.cureClass d.cls := by
  rw [State.wallClass, defined]

theorem State.shownMaturity_set {r : SlotRecord} (set : r.state = .set) :
    s.shownMaturity r = 16777215 := by
  rw [State.shownMaturity, set]; rfl

theorem State.shownMaturity_wet {r : SlotRecord} {stamp : Accum} {d : WallDef} (wet : r.state = .wet stamp)
    (defined : (s.wall r.slot.wall).definition = some d) :
    s.shownMaturity r = min ((s.cureClass d.cls).accum - stamp).toNat 16777214 := by
  rw [State.shownMaturity, wet]
  simp only
  rw [State.wallClass_of_definition defined]; rfl

theorem State.replyReadSlot_out {w c : Octet} {p : Word16} (out : 15 < w.toNat ∨ 63 < c.toNat) :
    State.replyReadSlot w c p s = s.refuse .badValue := by
  unfold State.replyReadSlot
  exact if_pos (by simpa using out)

theorem State.replyReadSlot_absent {w c : Octet} {p : Word16} (wall : w.toNat ≤ 15) (course : c.toNat ≤ 63)
    (absent : (s.wall w.toNat).definition = none) :
    State.replyReadSlot w c p s = s.refuse .badSlot := by
  unfold State.replyReadSlot
  rw [if_neg (by simp; omega)]
  simp only [absent]

theorem State.replyReadSlot_defined {w c : Octet} {p : Word16} {d : WallDef} (wall : w.toNat ≤ 15)
    (course : c.toNat ≤ 63) (defined : (s.wall w.toNat).definition = some d) :
    State.replyReadSlot w c p s =
      if d.inRange c.toNat p.toNat then
        { state := s, code := .ok
          content := .slot (s.slotView { wall := w.toNat, course := c.toNat, pos := p.toNat }) }
      else s.refuse .badSlot := by
  unfold State.replyReadSlot
  rw [if_neg (by simp; omega)]
  simp only [defined]

end

/-- Settles O5: by the checks of READ-SLOT, and by what its slot holds. -/
theorem readsAnswerAndChangeNothing : Obligations.ReadsAnswerAndChangeNothing := by
  refine ⟨fun s w c p ready => ?_, fun s ready => ?_, fun s slot => ?_, fun s => rfl⟩
  · refine ⟨fun out => ?_, fun wall course => ⟨fun absent => ?_, fun d defined => ⟨fun beside => ?_,
      fun ranged => ?_⟩⟩⟩
    · exact State.onRequest_refused ready (State.replyReadSlot_out out)
    · exact State.onRequest_refused ready (State.replyReadSlot_absent wall course absent)
    · have checked := State.replyReadSlot_defined (s := s.taken (.readSlot w c p)) (p := p) wall course
        defined
      rw [beside] at checked
      exact State.onRequest_refused ready checked
    · have checked := State.replyReadSlot_defined (s := s.taken (.readSlot w c p)) (p := p) wall course
        defined
      rw [ranged] at checked
      exact State.onRequest_reply (t := s.taken (.readSlot w c p)) ready checked
  · exact State.onRequest_reply (t := s.taken .readSite) (content := .site s.siteView) ready rfl
  · refine ⟨fun below => ?_, fun above => ⟨fun none => ?_, fun r found named => ⟨fun set => ?_,
      fun stamp d wet defined => ?_⟩⟩⟩
    · have reads := s.readSlot_retired below
      refine ⟨reads, ?_⟩
      simp only [State.slotView, reads, if_true]
      rfl
    · have reads := s.readSlot_vacant above none
      refine ⟨reads, ?_⟩
      simp only [State.slotView, reads, none]
      rfl
    · have reads := s.readSlot_set above found set
      have shown : s.shownMaturity r = _ := State.shownMaturity_set set
      refine ⟨reads, ?_⟩
      simp only [State.slotView, reads, found]
      rw [if_neg (by decide), if_neg (by decide), Option.map_some, shown]
      rfl
    · have reads := s.readSlot_wet above found wet
      have shown := State.shownMaturity_wet (s := s) wet (named ▸ defined)
      refine ⟨reads, ?_⟩
      simp only [State.slotView, reads, found]
      rw [if_neg (by decide), if_neg (by decide), Option.map_some, shown]
      rfl

/-! ### SET-SITE (R175, R176) -/

section
variable {s : State}

theorem State.replySetSite_online {f : SiteFields} (online : s.site.state.offline = false) :
    State.replySetSite f s = s.refuse .badState := by
  rw [State.replySetSite, online]; rfl

theorem State.replySetSite_unread {f : SiteFields} (offline : s.site.state.offline = true)
    (unread : takenConfig f = none) : State.replySetSite f s = s.refuse .badValue := by
  rw [State.replySetSite, offline, unread]; rfl

theorem State.replySetSite_refused {f : SiteFields} {c : SiteConfig} (offline : s.site.state.offline = true)
    (read : takenConfig f = some c)
    (bad : c.refresh ≤ c.settle
      ∨ s.site.state = .configured ∧ c.geometryDiffers s.cfg = true ∧ s.wallsFit c = false) :
    State.replySetSite f s = s.refuse .badValue := by
  simp only [State.replySetSite, offline, read]
  rw [if_neg (by decide)]
  split
  · rfl
  next timed =>
    rw [if_pos]
    obtain late | ⟨configured, differs, unfit⟩ := bad
    · exact absurd late timed
    · rw [configured, differs, unfit]; decide

theorem State.replySetSite_accepted {f : SiteFields} {c : SiteConfig}
    (offline : s.site.state.offline = true) (read : takenConfig f = some c) (timed : c.settle < c.refresh)
    (fits : s.site.state ≠ .configured ∨ c.geometryDiffers s.cfg = false ∨ s.wallsFit c = true) :
    State.replySetSite f s = (s.acceptSite c).accept := by
  simp only [State.replySetSite, offline, read]
  rw [if_neg (by decide), if_neg (by omega), if_neg]
  obtain other | same | fit := fits
  · simp [other]
  · simp [same]
  · simp [fit]

theorem State.acceptSite_first {c : SiteConfig} (state : s.site.state = .unconfigured) :
    s.acceptSite c = (((s.withConfig c).enterSite .configured).beginBlocks).evalHead := if_pos state

theorem State.acceptSite_again {c : SiteConfig} (state : s.site.state = .configured) :
    s.acceptSite c =
      if c.bitRate = s.cfg.bitRate then (s.withConfig c).renumberOwn c.station
      else ((s.withConfig c).renumberOwn c.station).changeRate := by
  rw [State.acceptSite, if_neg (by rw [state]; decide)]

theorem State.changeRate_idle (idle : s.rx.phase.receiving = false) :
    s.changeRate = (((s.withCurrent none).withIdle 0).withPhase .gapWait) := by
  rw [State.changeRate, idle]; rfl

theorem State.changeRate_receiving (receiving : s.rx.phase.receiving = true) :
    s.changeRate = (((s.withCurrent none).withIdle 0).dropFrame .gapWait) := by
  rw [State.changeRate, receiving]; rfl

end

/-- Settles O6: by the site state that SET-SITE finds, and by what the receiver is doing. -/
theorem setSiteWritesTheConfiguration : Obligations.SetSiteWritesTheConfiguration := by
  refine ⟨fun s f c ready state read timed => ?_, fun s f c ready state read timed fits => ?_,
    fun s => ⟨?_, ?_⟩⟩
  · have accepted : State.replySetSite f (s.taken (.setSite f))
        = ((s.taken (.setSite f)).acceptSite c).accept :=
      State.replySetSite_accepted (by rw [State.taken_site, state]; rfl) read timed
        (.inl (by rw [State.taken_site, state]; decide))
    rw [State.acceptSite_first (s := s.taken (.setSite f)) state] at accepted
    exact State.onRequest_accepted ready accepted
  · have accepted : State.replySetSite f (s.taken (.setSite f))
        = ((s.taken (.setSite f)).acceptSite c).accept :=
      State.replySetSite_accepted (by rw [State.taken_site, state]; rfl) read timed (.inr fits)
    have again := State.acceptSite_again (c := c) (s := s.taken (.setSite f)) state
    refine ⟨fun same => ?_, fun other => ?_⟩
    · rw [again.trans (if_pos same)] at accepted
      exact State.onRequest_accepted ready accepted
    · rw [again.trans (if_neg other)] at accepted
      exact State.onRequest_accepted ready accepted
  · intro idle
    rw [State.changeRate_idle (by rcases idle with phase | phase | phase <;> rw [phase] <;> rfl)]
    rfl
  · intro receiving
    rw [State.changeRate_receiving
      (by rcases receiving with ⟨_, phase⟩ | ⟨_, phase⟩ | ⟨_, _, phase⟩ <;> rw [phase] <;> rfl)]
    rfl

end Sys2Proof.Machine

namespace Sys2Proof.Machine

/-! ### SET-WALL, SET-CURE and SET-LIMITS (R3, R24, R142) -/

section
variable {s : State}

theorem State.replySetWall_elsewhere {f : WallFields} (state : s.site.state ≠ .configured) :
    State.replySetWall f s = s.refuse .badState := if_pos state

theorem State.replySetWall_unread {f : WallFields} (state : s.site.state = .configured)
    (unread : takenDefinition f = none) : State.replySetWall f s = s.refuse .badValue := by
  simp only [State.replySetWall, state, unread]
  rfl

/-- A wall that may not be replaced: it holds a record or has retired a course (R3, check 3). -/
def State.fixed (s : State) (w : Nat) : Prop :=
  (s.wall w).definition.isSome = true
    ∧ ((∃ r ∈ s.map.records, r.slot.wall = w) ∨ (s.wall w).solidHeight ≠ 0)

theorem State.fixed_iff {w : Nat} :
    s.fixed w ↔ ((s.wall w).definition.isSome && !s.replaceable w) = true := by
  simp only [State.fixed, State.replaceable, Bool.and_eq_true, Bool.not_eq_true', Bool.and_eq_false_iff,
    List.all_eq_false, bne_iff_ne, ne_eq, not_not, beq_eq_false_iff_ne]

theorem State.replySetWall_fixed {f : WallFields} {d : WallDef} (state : s.site.state = .configured)
    (read : takenDefinition f = some d) (fixed : s.fixed f.wall.toNat) :
    State.replySetWall f s = s.refuse .badState := by
  simp only [State.replySetWall, state, read]
  rw [if_neg (by simp), if_pos (State.fixed_iff.1 fixed)]

theorem State.replySetWall_free {f : WallFields} {d : WallDef} (state : s.site.state = .configured)
    (read : takenDefinition f = some d) (free : ¬ s.fixed f.wall.toNat) :
    State.replySetWall f s =
      if d.gridCheck s.cfg.halfModule s.cfg.courseHeight s.cfg.cellEdge then
        (s.mapWall f.wall.toNat fun p => p.define d).accept
      else s.refuse .badValue := by
  simp only [State.replySetWall, state, read]
  rw [if_neg (by simp), if_neg (fun holds => free (State.fixed_iff.2 holds))]

theorem State.replySetCure_refused {k : Octet} {datum : Word16} {threshold : BitVec 32}
    {code : AnswerCode} (refused : s.cureRefusal k datum threshold = some code) :
    State.replySetCure k datum threshold s = s.refuse code := by
  rw [State.replySetCure, refused]

theorem State.replySetCure_accepted {k : Octet} {datum : Word16} {threshold : BitVec 32}
    (offline : s.site.state.offline = true) (ranged : cureInRange k datum threshold) :
    State.replySetCure k datum threshold s =
      (s.acceptCure k.toNat datum.toInt threshold.toNat).accept := by
  rw [State.replySetCure, (State.cureRefusal_range offline).1 ranged]

theorem State.replySetLimits_online {f : LimitFields} (online : s.site.state.offline = false) :
    State.replySetLimits f s = s.refuse .badState := by
  rw [State.replySetLimits, online]; rfl

theorem State.replySetLimits_offline {f : LimitFields} (offline : s.site.state.offline = true) :
    State.replySetLimits f s = (s.acceptLimits f).accept := if_pos offline

end

theorem clamp_zero (hi n : Nat) : clamp 0 hi n = min hi n := Nat.zero_max _

/-- Settles O7: each request passes its checks and writes its values. -/
theorem configurationRequestsWriteTheirValues : Obligations.ConfigurationRequestsWriteTheirValues := by
  refine ⟨fun s f d ready state read fits => ⟨fun absent => ?_, fun defined bare flat => ?_⟩,
    fun s k datum threshold ready offline cls low high positive bounded => ?_, fun s f ready offline => ?_⟩
  · have free : ¬ (s.taken (.setWall f)).fixed f.wall.toNat := by
      rintro ⟨defined, -⟩
      rw [show ((s.taken (.setWall f)).wall f.wall.toNat).definition = none from absent] at defined
      cases defined
    have accepted := (State.replySetWall_free (s := s.taken (.setWall f)) state read free).trans
      (if_pos fits)
    have answered := State.onRequest_accepted (k := .setWall) ready accepted
    exact answered
  · have free : ¬ (s.taken (.setWall f)).fixed f.wall.toNat := by
      rintro ⟨-, ⟨r, held, named⟩ | raised⟩
      · exact bare r held named
      · exact raised flat
    have accepted := (State.replySetWall_free (s := s.taken (.setWall f)) state read free).trans
      (if_pos fits)
    have answered := State.onRequest_accepted (k := .setWall) ready accepted
    exact answered
  · have accepted := State.replySetCure_accepted (s := s.taken (.setCure k datum threshold)) offline
      ⟨cls, low, high, positive, bounded⟩
    refine ⟨fun raised => ?_, fun lowered => ?_⟩
    · have written : (s.taken (.setCure k datum threshold)).acceptCure k.toNat datum.toInt threshold.toNat
          = _ := if_neg (Nat.not_lt.2 raised)
      exact State.onRequest_accepted ready (accepted.trans (congrArg _ written))
    · have written : (s.taken (.setCure k datum threshold)).acceptCure k.toNat datum.toInt threshold.toNat
          = _ := if_pos lowered
      exact State.onRequest_accepted ready (accepted.trans (congrArg _ written))
  · have accepted := State.replySetLimits_offline (s := s.taken (.setLimits f)) (f := f) offline
    simp only [State.acceptLimits, takenLimits, takenLstop, takenSupport, takenLagOn, takenLagOff,
      clamp_zero] at accepted
    exact State.onRequest_accepted ready accepted

/-! ### Refusals (R3, R24, R130, R168, R175, R177, R180) -/

theorem takenConfig_of_bad {f : SiteFields}
    (bad : f.bitRate ≠ 1 ∧ f.bitRate ≠ 2 ∧ f.bitRate ≠ 3
      ∨ f.station.toNat < 1 ∨ 30 < f.station.toNat ∨ f.halfModule.toNat < 40 ∨ 200 < f.halfModule.toNat
      ∨ f.courseHeight.toNat < 40 ∨ 300 < f.courseHeight.toNat ∨ f.cellEdge.toNat < 250
      ∨ 4000 < f.cellEdge.toNat) : takenConfig f = none := by
  unfold takenConfig
  split
  · rfl
  next rate named =>
    refine if_neg ?_
    simp only [Bool.and_eq_true, decide_eq_true_eq]
    obtain ⟨one, two, three⟩ | ranges := bad
    · rw [BitRate.ofCode, if_neg one, if_neg two, if_neg three] at named
      cases named
    · omega

theorem takenDefinition_of_bad {f : WallFields}
    (bad : 15 < f.wall.toNat ∨ f.bond ≠ 0 ∧ f.bond ≠ 1 ∨ f.length.toNat % 2 = 1
      ∨ f.length.toNat < 4 ∨ 512 < f.length.toNat ∨ 63 < f.top.toNat ∨ 3 < f.cls.toNat
      ∨ f.x0.toInt < -1000000 ∨ 1000000 < f.x0.toInt ∨ f.y0.toInt < -1000000 ∨ 1000000 < f.y0.toInt
      ∨ f.z0.toInt < -1000000 ∨ 1000000 < f.z0.toInt
      ∨ f.direction ≠ 0 ∧ f.direction ≠ 1 ∧ f.direction ≠ 2 ∧ f.direction ≠ 3) :
    takenDefinition f = none := by
  unfold takenDefinition
  split
  next bond direction bonded directed =>
    have known : ¬ (f.bond ≠ 0 ∧ f.bond ≠ 1) := by
      rintro ⟨running, stack⟩
      rw [Bond.ofCode, if_neg running, if_neg stack] at bonded
      cases bonded
    have headed : ¬ (f.direction ≠ 0 ∧ f.direction ≠ 1 ∧ f.direction ≠ 2 ∧ f.direction ≠ 3) := by
      rintro ⟨a, b, c, d⟩
      rw [Direction.ofCode, if_neg a, if_neg b, if_neg c, if_neg d] at directed
      cases directed
    refine if_neg ?_
    simp only [known, headed, or_false, false_or] at bad
    simp only [Bool.and_eq_true, decide_eq_true_eq, beq_iff_eq, originInRange]
    omega
  next => rfl

section
variable {s : State}

theorem State.complete_eq_false
    (lacks : (∀ p ∈ s.walls, p.definition = none)
      ∨ ∃ p ∈ s.walls, ∃ d, p.definition = some d ∧ (s.cureClass d.cls).configured = false) :
    s.complete = false := by
  unfold State.complete
  rw [Bool.and_eq_false_iff]
  obtain bare | ⟨p, held, d, defined, unset⟩ := lacks
  · left
    rw [List.any_eq_false]
    intro p held
    rw [bare p held]; decide
  · right
    rw [List.all_eq_false]
    refine ⟨p, held, ?_⟩
    simp only [defined, unset]; decide

theorem State.replyStart_elsewhere (state : s.site.state ≠ .configured) :
    State.replyStart s = s.refuse .badState := if_pos state

theorem State.replyStart_configured (state : s.site.state = .configured) :
    State.replyStart s = if s.complete then s.acceptStart.accept else s.refuse .badValue := by
  rw [State.replyStart, if_neg (not_not.2 state)]

theorem State.replyStop_elsewhere (off : s.site.state.joined = false) :
    State.replyStop s = s.refuse .badState := by
  rw [State.replyStop, off]; rfl

theorem State.replyStop_inCells (joined : s.site.state.joined = true)
    (inCells : ∃ p ∈ s.admission.queue, p.state = .firm ∨ p.state = .seated) :
    State.replyStop s = s.refuse .armInCells := by
  obtain ⟨p, held, state⟩ := inCells
  rw [State.replyStop, joined, if_neg (by decide), if_pos]
  exact List.any_eq_true.2 ⟨p, held, by rcases state with state | state <;> rw [state] <;> rfl⟩

theorem State.replyStop_accepted (joined : s.site.state.joined = true)
    (clear : ∀ p ∈ s.admission.queue, p.state ≠ .firm ∧ p.state ≠ .seated) :
    State.replyStop s = s.acceptStop.accept := by
  rw [State.replyStop, joined, if_neg (by decide), if_neg]
  intro inCells
  obtain ⟨p, held, state⟩ := List.any_eq_true.1 inCells
  obtain ⟨firm, seated⟩ := clear p held
  cases kind : p.state <;> simp_all [PlacementState.inCells]

theorem State.replySurvey_elsewhere {w : Octet} (off : s.site.state.joined = false) :
    State.replySurvey w s = s.refuse .badState := by
  rw [State.replySurvey, off]; rfl

theorem State.replySurvey_out {w : Octet} (joined : s.site.state.joined = true) (high : 15 < w.toNat)
    (some : w.toNat ≠ 255) : State.replySurvey w s = s.refuse .badValue := by
  rw [State.replySurvey, joined, if_neg (by decide), if_pos (by simp [high, some])]

theorem State.replySurvey_absent {w : Octet} (joined : s.site.state.joined = true) (low : w.toNat ≤ 15)
    (absent : (s.wall w.toNat).definition = none) : State.replySurvey w s = s.refuse .badSlot := by
  rw [State.replySurvey, joined, if_neg (by decide), if_neg (by simp; omega), if_pos]
  simp only [absent, Option.isNone_none, Bool.and_true, bne_iff_ne]
  omega

theorem State.replySurvey_accepted {w : Octet} (joined : s.site.state.joined = true)
    (named : w.toNat = 255 ∨ w.toNat ≤ 15 ∧ (s.wall w.toNat).definition.isSome = true) :
    State.replySurvey w s = (s.pendSurvey (WallSelect.ofCode w)).accept := by
  rw [State.replySurvey, joined, if_neg (by decide), if_neg, if_neg]
  · obtain all | ⟨low, defined⟩ := named
    · simp [all]
    · rw [← Option.not_isSome, defined]; simp
  · simp only [Bool.and_eq_true, decide_eq_true_eq, bne_iff_ne]
    omega

end

/-- Settles O8: each check that fails refuses the request with its code. -/
theorem refusedRequestsHaveNoEffect : Obligations.RefusedRequestsHaveNoEffect := by
  intro s
  refine ⟨fun f => ⟨?_, fun offline => ⟨?_, ?_⟩⟩, fun f => ⟨?_, fun state => ⟨?_, fun d read => ⟨?_, ?_⟩⟩⟩,
    fun k datum threshold => ⟨?_, ?_⟩, ?_, ?_, ?_, ?_, ?_, fun w => ⟨?_, fun joined => ⟨?_, ?_⟩⟩⟩
  · exact fun online ready => State.onRequest_refused ready (State.replySetSite_online online)
  · exact fun bad ready =>
      State.onRequest_refused ready (State.replySetSite_unread offline (takenConfig_of_bad bad))
  · exact fun c read bad ready => State.onRequest_refused ready (State.replySetSite_refused offline read bad)
  · exact fun elsewhere ready => State.onRequest_refused ready (State.replySetWall_elsewhere elsewhere)
  · exact fun bad ready =>
      State.onRequest_refused ready (State.replySetWall_unread state (takenDefinition_of_bad bad))
  · exact fun fixed ready => State.onRequest_refused ready (State.replySetWall_fixed state read fixed)
  · intro free off ready
    have refused := State.replySetWall_free (s := s.taken (.setWall f)) state read free
    exact State.onRequest_refused ready
      (refused.trans (if_neg (by rw [Bool.not_eq_true]; exact off)))
  · exact fun online ready => State.onRequest_refused ready
      (State.replySetCure_refused (State.cureRefusal_online online))
  · exact fun offline bad ready => State.onRequest_refused ready
      (State.replySetCure_refused ((State.cureRefusal_range offline).2 (by unfold cureInRange; omega)))
  · exact fun f online ready => State.onRequest_refused ready (State.replySetLimits_online online)
  · exact fun elsewhere ready => State.onRequest_refused ready (State.replyStart_elsewhere elsewhere)
  · intro state lacks ready
    have refused := State.replyStart_configured (s := s.taken .start) state
    have incomplete : (s.taken .start).complete = false := s.complete_eq_false lacks
    rw [incomplete] at refused
    exact State.onRequest_refused ready refused
  · exact fun off ready => State.onRequest_refused ready (State.replyStop_elsewhere off)
  · exact fun joined inCells ready =>
      State.onRequest_refused ready (State.replyStop_inCells joined inCells)
  · exact fun off ready => State.onRequest_refused ready (State.replySurvey_elsewhere off)
  · exact fun high some ready =>
      State.onRequest_refused ready (State.replySurvey_out joined high some)
  · exact fun low absent ready =>
      State.onRequest_refused ready (State.replySurvey_absent joined low absent)

end Sys2Proof.Machine

namespace Sys2Proof.Machine

/-! ### States of placements named one by one -/

theorem PlacementState.waits_iff {x : PlacementState} :
    x.waits = true ↔ x = .queued ∨ x = .waitSupport ∨ x = .waitCells := by
  cases x <;> simp [PlacementState.waits]

theorem PlacementState.announced_iff {x : PlacementState} :
    x.announced = true ↔ x = .announcing ∨ x = .tentative := by
  cases x <;> simp [PlacementState.announced]

theorem PlacementState.terminal_iff {x : PlacementState} :
    x.terminal = true ↔ x = .done ∨ x = .withdrawn ∨ x = .failed := by
  cases x <;> simp [PlacementState.terminal]

theorem PlacementState.closes_iff {x : PlacementState} :
    x.closes = true ↔ x = .announcing ∨ x = .tentative ∨ x = .firm := by
  cases x <;> simp [PlacementState.closes]

theorem PlacementState.announced_eq_false {x : PlacementState} (h : x ≠ .announcing ∧ x ≠ .tentative) :
    x.announced = false := by
  rw [Bool.eq_false_iff, ne_eq, PlacementState.announced_iff, not_or]; exact h

/-- A record whose report shows a change has its report owed (R65). -/
theorem Placement.changedTo_of_shown {p q : Placement} (h : p.shown ≠ q.shown) :
    p.changedTo q = { q with reportOwed := true } := by
  rw [Placement.changedTo, bne_iff_ne.2 h, Bool.or_true]

theorem Placement.changedTo_of_same {p q : Placement} (h : p.shown = q.shown) :
    p.changedTo q = { q with reportOwed := q.reportOwed } := by
  rw [Placement.changedTo, h, bne_self_eq_false, Bool.or_false]

theorem Placement.shown_ne_of_state {p q : Placement} (h : p.state ≠ q.state) : p.shown ≠ q.shown :=
  fun same => h (congrArg Prod.fst same)

/-! ### START and STOP (R64, R178, R180) -/

/-- Where no placement is announced no claim is abandoned. -/
theorem foldl_abandon_of_none {queue : List Placement} {s : State}
    (none : ∀ p ∈ queue, p.state ≠ .announcing ∧ p.state ≠ .tentative) :
    queue.foldl (fun t p => if p.state.announced then t.abandonTag p.tag else t) s = s := by
  induction queue generalizing s with
  | nil => rfl
  | cons p queue ih =>
    rw [List.foldl_cons, PlacementState.announced_eq_false (none p (.head _)), if_neg (by decide)]
    exact ih fun q held => none q (.tail _ held)

theorem State.abandonAnnounced_of_none {s : State}
    (none : ∀ p ∈ s.admission.queue, p.state ≠ .announcing ∧ p.state ≠ .tentative) :
    s.abandonAnnounced = s := foldl_abandon_of_none none

theorem State.abandonAnnounced_of_one {s : State} {before after : List Placement} {p : Placement}
    (queue : s.admission.queue = before ++ p :: after)
    (older : ∀ q ∈ before, q.state ≠ .announcing ∧ q.state ≠ .tentative)
    (newer : ∀ q ∈ after, q.state ≠ .announcing ∧ q.state ≠ .tentative)
    (announced : p.state = .announcing ∨ p.state = .tentative) :
    s.abandonAnnounced = s.abandonTag p.tag := by
  rw [State.abandonAnnounced, queue, List.foldl_append, foldl_abandon_of_none older, List.foldl_cons,
    PlacementState.announced_iff.2 announced, if_pos rfl, foldl_abandon_of_none newer]

/-- A placement that is not terminal fails with LEFT, its report owed (R64, R65). -/
theorem Placement.left_eq (p : Placement) :
    (if p.state.terminal then p else p.changedTo (p.fail .left)) =
      if p.state = .done ∨ p.state = .withdrawn ∨ p.state = .failed then p
      else
        { p with
          state := .failed, reason := some (.fail .left), blocking := none, missing := none
          supportDue := none, motion := .stopped, holdoff := none, reportOwed := true } := by
  simp only [PlacementState.terminal_iff]
  split
  · rfl
  next live =>
    exact Placement.changedTo_of_shown
      (Placement.shown_ne_of_state fun same => live (.inr (.inr same)))

theorem State.failAll_eq (s : State) :
    s.failAll = s.withQueue (s.admission.queue.map fun p =>
      if p.state = .done ∨ p.state = .withdrawn ∨ p.state = .failed then p
      else
        { p with
          state := .failed, reason := some (.fail .left), blocking := none, missing := none
          supportDue := none, motion := .stopped, holdoff := none, reportOwed := true }) := by
  rw [State.failAll, List.map_congr_left fun p _ => p.left_eq]

/-- Settles O9: START and STOP by their named effects. -/
theorem startAndStopMoveTheStation : Obligations.StartAndStopMoveTheStation := by
  refine ⟨fun s ready state complete => ?_, fun s ready joined clear => ?_,
    fun s => ⟨s.abandonAnnounced_of_none, fun _ _ _ => State.abandonAnnounced_of_one, s.failAll_eq⟩⟩
  · have accepted := State.replyStart_configured (s := s.taken .start) state
    rw [show (s.taken .start).complete = true from complete, if_pos rfl] at accepted
    have answered := State.onRequest_accepted (k := .start) ready accepted
    exact answered
  · refine ⟨_, rfl, ?_⟩
    have accepted := State.replyStop_accepted (s := s.taken .stop) joined clear
    have site : (s.taken .stop).abandonAnnounced.failAll.site = s.site :=
      (State.failAll_frame _ .site (by decide)).trans
        (State.abandonAnnounced_frame (s.taken .stop) .site (by decide))
    have stopped : (s.taken .stop).acceptStop =
        (let t := (({ (s.taken .stop).abandonAnnounced.failAll with
            site :=
              { s.site with
                state := .leaving, listenDue := none
                leaveDue := some (later s.now (3 * s.cfg.refresh)) } } : State).oweSite).reevaluate
          if t.leavingDone then t.endLeaving else t) := by
      rw [← site]; rfl
    rw [stopped] at accepted
    refine ⟨fun busy => ?_, fun done => ?_⟩
    · rw [if_neg (by rw [busy]; decide)] at accepted
      have answered := State.onRequest_accepted (k := .stop) ready accepted
      exact answered
    · rw [if_pos done] at accepted
      have answered := State.onRequest_accepted (k := .stop) ready accepted
      exact answered

end Sys2Proof.Machine

namespace Sys2Proof.Machine

/-! ### The timers of the site state (R179, R181) -/

section
variable {s : State} {f : CurrentFrame}

theorem State.dropUrgentCurrent_none (none : s.tx.current = none) : s.dropUrgentCurrent = s := by
  simp only [State.dropUrgentCurrent, none]

theorem State.dropUrgentCurrent_bulk (held : s.tx.current = some f) (bulk : f.source.urgent = false) :
    s.dropUrgentCurrent = s := by
  simp only [State.dropUrgentCurrent, held, bulk, Bool.not_false, if_true]

theorem State.dropUrgentCurrent_urgent (held : s.tx.current = some f) (urgent : f.source.urgent = true) :
    s.dropUrgentCurrent =
      if f.phase = .sending then s.withCurrent (some { f with lastAttempt := true })
      else (s.withCurrent none).frameDiscarded f := by
  simp only [State.dropUrgentCurrent, held, urgent]
  rfl

end

/-- The state after the leave timer has emptied the urgent queue, its current frame as it was (R181). -/
def State.leaveEmptied (s : State) : State :=
  ({ s with site := { s.site with leaveDue := none, leaveExpired := true } } : State).withUrgent []

theorem State.leaveExpires_eq (s : State) : s.leaveExpires = s.leaveEmptied.dropUrgentCurrent := rfl

/-- Settles O10: each timer by its condition, and the end of LEAVING by its own. -/
theorem siteTimersMoveTheSiteState : Obligations.SiteTimersMoveTheSiteState := by
  refine ⟨fun s due running state set due_reached => ?_, fun s due running state set due_reached => ?_,
    fun s running state urgent current => ?_⟩
  · have ready : s.listenReady = true := by
      rw [State.listenReady, running, state, set]; exact due_reached
    change execListenTimerExpiry s = _
    rw [execListenTimerExpiry, ready]; rfl
  · have ready : s.leaveReady = true := by
      rw [State.leaveReady, running, state, set]; exact due_reached
    have expired : exec .leaveTimerExpiry s = .next s.leaveExpires := by
      change execLeaveTimerExpiry s = _
      rw [execLeaveTimerExpiry, ready]; rfl
    rw [expired, State.leaveExpires_eq]
    refine ⟨fun none => ?_, fun f held => ⟨fun bulk => ?_, fun urgent sending => ?_,
      fun urgent still => ?_⟩⟩ <;> refine congrArg Host.Outcome.next ?_
    · exact State.dropUrgentCurrent_none (s := s.leaveEmptied) none
    · exact State.dropUrgentCurrent_bulk (s := s.leaveEmptied) held bulk
    · exact (State.dropUrgentCurrent_urgent (s := s.leaveEmptied) held urgent).trans (if_pos sending)
    · exact (State.dropUrgentCurrent_urgent (s := s.leaveEmptied) held urgent).trans (if_neg still)
  · have ready : s.leavingReady = true := by
      rw [State.leavingReady, State.leavingDone, running, state, urgent, current]; rfl
    change execLeavingEnd s = _
    rw [execLeavingEnd, ready]; rfl

/-! ### PLACE (R41, R42) -/

theorem distinct_iff (l : List Nat) : distinct l = true ↔ l.Nodup := by
  induction l with
  | nil => simp [distinct]
  | cons x l ih => simp [distinct, ih]

theorem goodCells_iff {tag : Octet} {cells : List Nat} :
    goodCells tag cells = true ↔
      tag ≠ 0 ∧ 1 ≤ cells.length ∧ cells.length ≤ 16 ∧ cells.Nodup ∧ ∀ c ∈ cells, c ≤ 16383 := by
  simp only [goodCells, Bool.and_eq_true, bne_iff_ne, ne_eq, decide_eq_true_eq, distinct_iff,
    List.all_eq_true, Bool.not_eq_true', List.isEmpty_eq_false_iff, Nat.one_le_iff_ne_zero,
    List.length_eq_zero_iff, and_assoc]

section
variable {s : State} {f : PlaceFields}

theorem State.liveTag_iff {tag : Octet} :
    s.liveTag tag = true ↔ ∃ p ∈ s.admission.queue, p.tag = tag ∧ p.state.terminal = false := by
  simp [State.liveTag]

theorem State.liveTarget_iff {slot : Slot} :
    s.liveTarget slot = true ↔ ∃ p ∈ s.admission.queue, p.target = slot ∧ p.state.terminal = false := by
  simp [State.liveTarget]

theorem State.replyPlace_elsewhere (off : s.site.state.joined = false) :
    State.replyPlace f s = s.refuse .badState := by
  rw [State.replyPlace, off]; rfl

theorem State.replyPlace_full (joined : s.site.state.joined = true)
    (full : Config.queueCapacity ≤ s.admission.queue.length) :
    State.replyPlace f s = s.refuse .queueFull := by
  rw [State.replyPlace, joined, if_neg (by decide), if_pos full]

theorem State.replyPlace_duplicate (joined : s.site.state.joined = true)
    (room : s.admission.queue.length < Config.queueCapacity) (live : s.liveTag f.tag = true) :
    State.replyPlace f s = s.refuse .dupTag := by
  rw [State.replyPlace, joined, if_neg (by decide), if_neg (Nat.not_le.2 room), if_pos live]

theorem State.replyPlace_absent (joined : s.site.state.joined = true)
    (room : s.admission.queue.length < Config.queueCapacity) (new : s.liveTag f.tag = false)
    (absent : (s.wall f.wall.toNat).definition = none) :
    State.replyPlace f s = s.refuse .badSlot := by
  rw [State.replyPlace, joined, if_neg (by decide), if_neg (Nat.not_le.2 room), new, if_neg (by decide),
    absent]

variable {d : WallDef}

/-- A check of R41 that follows the wall's definition refuses with its code. -/
theorem State.replyPlace_refused (joined : s.site.state.joined = true)
    (room : s.admission.queue.length < Config.queueCapacity) (new : s.liveTag f.tag = false)
    (defined : (s.wall f.wall.toNat).definition = some d) {code : AnswerCode}
    (check : s.placeCheck f d = some code) : State.replyPlace f s = s.refuse code := by
  rw [State.replyPlace, joined, if_neg (by decide), if_neg (Nat.not_le.2 room), new, if_neg (by decide)]
  simp only [defined, check]

theorem State.replyPlace_accepted (joined : s.site.state.joined = true)
    (room : s.admission.queue.length < Config.queueCapacity) (new : s.liveTag f.tag = false)
    (defined : (s.wall f.wall.toNat).definition = some d) (check : s.placeCheck f d = none) :
    State.replyPlace f s = (s.acceptPlace f).accept := by
  rw [State.replyPlace, joined, if_neg (by decide), if_neg (Nat.not_le.2 room), new, if_neg (by decide)]
  simp only [defined, check]

theorem State.placeCheck_beside (beside : d.inRange f.course.toNat f.pos.toNat = false) :
    s.placeCheck f d = some .badSlot := if_pos (by rw [Bool.not_eq_true']; exact beside)

theorem State.placeCheck_cells (ranged : d.inRange f.course.toNat f.pos.toNat = true)
    (bad : goodCells f.tag (placeCells f) = false) : s.placeCheck f d = some .badValue := by
  rw [State.placeCheck, if_neg (by rw [Bool.not_eq_true']; simpa [placeTarget] using ranged), bad]
  rfl

/-- The last two checks of R41, on a slot in range with a good cell list. -/
theorem State.placeCheck_good (ranged : d.inRange f.course.toNat f.pos.toNat = true)
    (good : goodCells f.tag (placeCells f) = true) :
    s.placeCheck f d =
      if d.seatCell s.cfg f.course.toNat f.pos.toNat ∉ placeCells f then some .cellsMiss
      else if s.readSlot (placeTarget f) ≠ .vacant ∨ s.liveTarget (placeTarget f) = true then
        some .slotTaken
      else none := by
  rw [State.placeCheck, if_neg (by rw [Bool.not_eq_true']; simpa [placeTarget] using ranged), good,
    if_neg (by decide)]
  refine if_congr ?_ rfl (if_congr ?_ rfl rfl)
  · simp [placeTarget]
  · rw [Bool.or_eq_true, decide_eq_true_iff]

end

/-- Settles O11: the checks of R41 one after another. -/
theorem placeAppendsARecord : Obligations.PlaceAppendsARecord := by
  refine ⟨fun s f d ready joined room fresh defined ranged good seat vacant => ?_, fun s f ready => ?_,
    fun _ _ => goodCells_iff⟩
  · have new : s.liveTag f.tag = false := by
      rw [Bool.eq_false_iff, ne_eq, State.liveTag_iff]
      rintro ⟨p, held, named, live⟩
      obtain terminal | ⟨other, -⟩ := fresh p held
      · rw [live] at terminal; cases terminal
      · exact other named
    have untaken : ¬ s.liveTarget (placeTarget f) = true := by
      rw [State.liveTarget_iff]
      rintro ⟨p, held, named, live⟩
      obtain terminal | ⟨-, other⟩ := fresh p held
      · rw [live] at terminal; cases terminal
      · exact other named
    have passed : (s.taken (.place f)).placeCheck f d = none :=
      (State.placeCheck_good ranged good).trans
        ((if_neg (not_not.2 seat)).trans (if_neg (by rintro (taken | live); exacts [taken vacant, untaken live])))
    have accepted := State.replyPlace_accepted (s := s.taken (.place f)) joined room new defined passed
    have answered := State.onRequest_accepted (k := .place) ready accepted
    exact answered
  · refine ⟨fun off => ?_, fun joined => ⟨fun full => ?_, fun room => ⟨fun live => ?_, fun dead => ?_⟩⟩⟩
    · exact State.onRequest_refused ready (State.replyPlace_elsewhere off)
    · exact State.onRequest_refused ready (State.replyPlace_full joined full)
    · exact State.onRequest_refused ready
        (State.replyPlace_duplicate joined room (State.liveTag_iff.2 live))
    · have new : s.liveTag f.tag = false := by
        rw [Bool.eq_false_iff, ne_eq, State.liveTag_iff]
        rintro ⟨p, held, named, live⟩
        rw [dead p held named] at live; cases live
      refine ⟨fun absent => ?_, fun d defined => ?_⟩
      · exact State.onRequest_refused ready (State.replyPlace_absent joined room new absent)
      · have refused : ∀ {code : AnswerCode}, (s.taken (.place f)).placeCheck f d = some code →
            exec (.place f) s = .next (s.produce 0x20 code .plain) := by
          intro code check
          exact State.onRequest_refused ready
            (State.replyPlace_refused (s := s.taken (.place f)) joined room new defined check)
        refine ⟨fun beside => refused (State.placeCheck_beside beside), fun ranged =>
          ⟨fun bad => refused (State.placeCheck_cells ranged bad), fun good =>
            ⟨fun misses => refused ((State.placeCheck_good ranged good).trans (if_pos misses)),
              fun seat taken => refused ((State.placeCheck_good ranged good).trans
                ((if_neg (not_not.2 seat)).trans (if_pos ?_)))⟩⟩⟩
        exact taken.imp id State.liveTarget_iff.2

end Sys2Proof.Machine

namespace Sys2Proof.Machine

/-! ### The record a request names (R40) -/

/-- The first element of a list that satisfies a test stands where those before it do not. -/
theorem findIdx?_split {α : Type} {p : α → Bool} {before after : List α} {x : α}
    (older : ∀ y ∈ before, p y = false) (found : p x = true) :
    (before ++ x :: after).findIdx? p = some before.length := by
  rw [List.findIdx?_append, List.findIdx?_eq_none_iff.2 older, List.findIdx?_cons, found]
  simp

section
variable {s : State} {tag : Octet}

theorem State.resolveTag_none (unnamed : ∀ p ∈ s.admission.queue, p.tag ≠ tag) :
    s.resolveTag tag = none := by
  have absent : s.admission.queue.findIdx? (fun p => p.tag == tag) = none :=
    List.findIdx?_eq_none_iff.2 fun p held => beq_eq_false_iff_ne.2 (unnamed p held)
  have dead : s.admission.queue.findIdx? (fun p => p.tag == tag && !p.state.terminal) = none :=
    List.findIdx?_eq_none_iff.2 fun p held => by rw [beq_eq_false_iff_ne.2 (unnamed p held)]; rfl
  simp only [State.resolveTag, dead, absent]

/-- A record of a tag that is not terminal. -/
def Placement.liveWith (tag : Octet) (p : Placement) : Prop :=
  p.tag = tag ∧ p.state ≠ .done ∧ p.state ≠ .withdrawn ∧ p.state ≠ .failed

theorem Placement.liveWith_iff {p : Placement} :
    (p.tag == tag && !p.state.terminal) = true ↔ p.liveWith tag := by
  rw [Bool.and_eq_true, beq_iff_eq, Bool.not_eq_true', Bool.eq_false_iff, ne_eq,
    PlacementState.terminal_iff, not_or, not_or]
  rfl

theorem Placement.not_liveWith_iff {p : Placement} :
    (p.tag == tag && !p.state.terminal) = false ↔ ¬ p.liveWith tag := by
  rw [← Placement.liveWith_iff, Bool.not_eq_true]

variable {before after : List Placement} {p : Placement}

theorem State.resolveTag_live (queue : s.admission.queue = before ++ p :: after) (live : p.liveWith tag)
    (older : ∀ q ∈ before, ¬ q.liveWith tag) : s.resolveTag tag = some before.length := by
  have found := findIdx?_split (p := fun q => q.tag == tag && !q.state.terminal) (after := after)
    (fun q held => Placement.not_liveWith_iff.2 (older q held)) (Placement.liveWith_iff.2 live)
  simp only [State.resolveTag, queue, found]

theorem State.resolveTag_oldest (queue : s.admission.queue = before ++ p :: after) (named : p.tag = tag)
    (older : ∀ q ∈ before, q.tag ≠ tag) (dead : ∀ q ∈ s.admission.queue, ¬ q.liveWith tag) :
    s.resolveTag tag = some before.length := by
  have none : s.admission.queue.findIdx? (fun q => q.tag == tag && !q.state.terminal) = Option.none :=
    List.findIdx?_eq_none_iff.2 fun q held => Placement.not_liveWith_iff.2 (dead q held)
  have found := findIdx?_split (p := fun q => q.tag == tag) (after := after)
    (fun q held => beq_eq_false_iff_ne.2 (older q held)) (beq_iff_eq.2 named)
  rw [← queue] at found
  simp only [State.resolveTag, none, found]

theorem State.onPlacement_none {act : Nat → Placement → Reply} (none : s.resolveTag tag = none) :
    s.onPlacement tag act = s.refuse .noSuchTag := by
  rw [State.onPlacement, none]

theorem State.onPlacement_some {act : Nat → Placement → Reply} {i : Nat}
    (resolved : s.resolveTag tag = some i) (held : s.admission.queue[i]? = some p) :
    s.onPlacement tag act = act i p := by
  rw [State.onPlacement, resolved]
  simp only [held]

end

/-! ### WITHDRAW (R60) -/

section
variable {s : State} {p : Placement} {i : Nat}

theorem State.withdrawAt_waits (waits : p.state.waits = true) :
    s.withdrawAt i p = (s.mapPlacement i Placement.withdraw).evalHead.accept := if_pos waits

theorem State.withdrawAt_announced (announced : p.state.announced = true) :
    s.withdrawAt i p = ((s.abandonTag p.tag).mapPlacement i Placement.withdraw).reevaluate.accept := by
  have idle : ¬ p.state.waits = true := by
    rcases PlacementState.announced_iff.1 announced with state | state <;> rw [state] <;> decide
  rw [State.withdrawAt, if_neg idle, if_pos announced]

theorem State.withdrawAt_late
    (late : p.state = .firm ∨ p.state = .seated ∨ p.state.terminal = true) :
    s.withdrawAt i p = s.refuse .tooLate := by
  rw [State.withdrawAt, if_neg, if_neg]
  all_goals
    rw [PlacementState.terminal_iff] at late
    rcases late with state | state | state | state | state <;> rw [state] <;> decide

end

/-- The fields that a placement's report shows, other than the tag, differ (R65). -/
theorem Placement.shown_ne_iff {p q : Placement} :
    p.shown ≠ q.shown ↔
      p.state ≠ q.state ∨ p.reason ≠ q.reason ∨ p.yields ≠ q.yields ∨ p.blocking ≠ q.blocking
        ∨ p.missing ≠ q.missing ∨ p.overrun ≠ q.overrun := by
  simp only [Placement.shown, ne_eq, Prod.mk.injEq]
  tauto

/-- Settles O12: the state of the record named decides; a tag resolves by its first live record. -/
theorem withdrawWithdraws : Obligations.WithdrawWithdraws := by
  refine ⟨fun s tag i p ready resolved held => ⟨fun waits => ?_, fun announced => ?_, fun late => ?_⟩,
    fun s tag unnamed => ⟨fun ready => ?_, fun ready => ?_, fun ready => ?_⟩,
    fun s tag => ⟨State.resolveTag_none, fun before after p queue =>
      ⟨fun live older => State.resolveTag_live queue live older,
        fun named older dead => State.resolveTag_oldest queue named older dead⟩⟩,
    fun s before after p f queue => ⟨fun changed => ?_, fun same => ?_⟩, fun p => ⟨rfl, fun r => rfl⟩⟩
  · have named := State.onPlacement_some (s := s.taken (.withdraw tag))
      (act := (s.taken (.withdraw tag)).withdrawAt) resolved held
    exact State.onRequest_accepted ready
      (named.trans (State.withdrawAt_waits (PlacementState.waits_iff.2 waits)))
  · have named := State.onPlacement_some (s := s.taken (.withdraw tag))
      (act := (s.taken (.withdraw tag)).withdrawAt) resolved held
    exact State.onRequest_accepted ready
      (named.trans (State.withdrawAt_announced (PlacementState.announced_iff.2 announced)))
  · have named := State.onPlacement_some (s := s.taken (.withdraw tag))
      (act := (s.taken (.withdraw tag)).withdrawAt) resolved held
    exact State.onRequest_refused ready (named.trans (State.withdrawAt_late late))
  · exact State.onRequest_refused ready (State.onPlacement_none (State.resolveTag_none unnamed))
  · exact State.onRequest_refused ready (State.onPlacement_none (State.resolveTag_none unnamed))
  · exact State.onRequest_refused ready (State.onPlacement_none (State.resolveTag_none unnamed))
  · rw [State.mapPlacement_split queue, Placement.changedTo_of_shown (Placement.shown_ne_iff.2 changed)]
    rfl
  · rw [State.mapPlacement_split queue, Placement.changedTo_of_same
      (not_not.1 fun differs => same (Placement.shown_ne_iff.1 differs))]
    rfl

/-! ### SEATED and the own insert (R12, R62, R90) -/

section
variable {s : State} {slot : Slot}

theorem State.seatClaim_eq {tag : Octet} {c : OwnClaim} (served : s.claimOf tag = some c) :
    s.seatClaim tag =
      (s.mapClaim c.number fun c => { c with state := .seated }).requestAnnounce c.number := by
  simp only [State.seatClaim, served]

theorem State.ownInsert_vacant (vacant : s.readSlot slot = .vacant) :
    s.ownInsert slot = s.putRecord (s.ownRecord slot (.wet (s.wallClass slot.wall).accum)) := by
  simp only [State.ownInsert, vacant]

theorem State.ownInsert_retired (retired : s.readSlot slot = .retired) :
    s.ownInsert slot = s.doubleLay slot none := by
  simp only [State.ownInsert, retired]

/-- A slot above the solid height that has a record reads WET or SET. -/
theorem State.readSlot_of_record (above : s.readSlot slot ≠ .retired) {r : SlotRecord}
    (found : s.recordAt slot = some r) : s.readSlot slot = .wet ∨ s.readSlot slot = .set := by
  have higher : (s.wall slot.wall).solidHeight ≤ slot.course := by
    by_contra below
    exact above (State.readSlot_retired (Nat.lt_of_not_le below))
  cases state : r.state with
  | wet stamp => exact .inl (State.readSlot_wet higher found state)
  | set => exact .inr (State.readSlot_set higher found state)

theorem State.ownInsert_record (above : s.readSlot slot ≠ .retired) {r : SlotRecord}
    (found : s.recordAt slot = some r) :
    s.ownInsert slot =
      if r.own then s.doubleLay slot none
      else
        (s.putRecord (s.ownRecord slot
          (if r.isSet then .set else .wet (s.wallClass slot.wall).accum))).doubleLay slot
            (some r.laidBy) := by
  rcases State.readSlot_of_record above found with reads | reads <;>
    simp only [State.ownInsert, reads, found]

end

/-- Settles O13: the claim and the placement follow the own insert, which goes by the slot's state. -/
theorem seatedMakesTheOwnRecord : Obligations.SeatedMakesTheOwnRecord := by
  refine ⟨fun s tag i p ready resolved held => ⟨fun c firm served => ?_, fun other => ?_⟩,
    fun s slot => ⟨State.ownInsert_vacant, State.ownInsert_retired, fun r above found =>
      ⟨fun own => ?_, fun peer set => ?_, fun peer wet => ?_⟩⟩⟩
  · have named := State.onPlacement_some (s := s.taken (.seated tag))
      (act := (s.taken (.seated tag)).seatAt) resolved held
    have claims : ((s.taken (.seated tag)).ownInsert p.target).claims = s.claims :=
      State.ownInsert_frame _ _ .claims (by decide)
    have serves : ((s.taken (.seated tag)).ownInsert p.target).claimOf p.tag = some c := by
      rw [State.claimOf, claims]; exact served
    rw [State.seatAt, if_pos firm, State.seatClaim_eq serves] at named
    have answered := State.onRequest_accepted (k := .seated) (run := State.replySeated tag) ready named
    exact answered
  · have named := State.onPlacement_some (s := s.taken (.seated tag))
      (act := (s.taken (.seated tag)).seatAt) resolved held
    exact State.onRequest_refused ready (named.trans (if_neg other))
  · rw [State.ownInsert_record above found, own]; rfl
  · rw [State.ownInsert_record above found, peer, SlotRecord.isSet, set]; rfl
  · have damp : r.isSet = false := beq_eq_false_iff_ne.2 wet
    rw [State.ownInsert_record above found, peer, damp]; rfl

/-! ### CLEAR (R63, R76, R92) -/

/-- The current frame once the claim of this number has been cleared: its CLAIM frame is marked to take no
outcome where it is being sent and goes where it waits, and any other stands (R76, R110). -/
def clearedFrame (n : Octet) (current : Option CurrentFrame) : Option CurrentFrame :=
  match current with
  | none => none
  | some f =>
    if f.source ≠ .claim n false then some f
    else if f.phase = .sending then some { f with source := .claim n true }
    else none

theorem State.orphanFrame_eq (s : State) (n : Octet) :
    s.orphanFrame n = s.withCurrent (clearedFrame n s.tx.current) := by
  cases held : s.tx.current with
  | none =>
    simp only [State.orphanFrame, State.claimFrame, held, clearedFrame, State.withCurrent]
    rw [← held]
  | some f =>
    by_cases other : f.source ≠ .claim n false
    · simp only [State.orphanFrame, State.claimFrame, held, if_neg other, clearedFrame, if_pos other,
        State.withCurrent]
      rw [← held]
    · have source := not_not.1 other
      by_cases sending : f.phase = .sending
      · simp only [State.orphanFrame, State.claimFrame, held, if_pos source, if_pos sending, clearedFrame,
          if_neg other, Option.map_some]
      · simp only [State.orphanFrame, State.claimFrame, held, if_pos source, if_neg sending, clearedFrame,
          if_neg other]

theorem State.clearClaim_eq {s : State} {tag : Octet} {c : OwnClaim} (served : s.claimOf tag = some c) :
    s.clearClaim tag =
      (((s.removeClaimRecords c.number).withCurrent (clearedFrame c.number s.tx.current)).deleteClaim
        c.number).queueRelease c.number := by
  rw [State.clearClaim, served]
  simp only [State.orphanFrame_eq]
  rfl

/-- Settles O14: by the state of the record named; the claim goes by the place of its frame. -/
theorem clearReleases : Obligations.ClearReleases := by
  intro s tag i p ready resolved held
  have named := State.onPlacement_some (s := s.taken (.clear tag))
    (act := (s.taken (.clear tag)).clearAt) resolved held
  refine ⟨fun unseated unfirm => ?_, fun c served => ?_⟩
  · exact State.onRequest_refused ready (named.trans ((if_neg unseated).trans (if_neg unfirm)))
  · have cleared := State.clearClaim_eq (s := s.taken (.clear tag)) served
    refine ⟨fun seated => ?_, fun firm => ?_⟩
    · rw [State.clearAt, if_pos seated, cleared] at named
      have answered := State.onRequest_accepted (k := .clear) (run := State.replyClear tag) ready named
      exact answered
    · rw [State.clearAt, if_neg (by rw [firm]; decide), if_pos firm, cleared] at named
      have answered := State.onRequest_accepted (k := .clear) (run := State.replyClear tag) ready named
      exact answered

/-! ### RESUME (R156, R158) -/

/-- A motion limit timer runs on, or one of a FIRM placement held at 0 ms expires (R58, R59, R65). -/
theorem Placement.resume_eq (now : LocalTime) (p : Placement) :
    p.resume now =
      if p.state = .firm ∧ p.motion = .held 0 then
        { p with
          overrun := true, motion := .stopped, reportOwed := p.reportOwed || !p.overrun }
      else { p with motion := p.motion.restart now } := by
  unfold Placement.resume
  simp only [Bool.and_eq_true, decide_eq_true_eq]
  refine if_congr Iff.rfl ?_ rfl
  cases mark : p.overrun with
  | true =>
    rw [Placement.changedTo_of_same (by simp only [Placement.shown, Placement.overran, mark])]
    simp [Placement.overran]
  | false =>
    rw [Placement.changedTo_of_shown (by simp [Placement.shown, Placement.overran, mark])]
    simp [Placement.overran]

/-- The state of a RESUME being taken, its latch released and its queue rewritten (R156, R158). -/
def State.resumedWith (s : State) (queue : List Placement) : State :=
  (({ s.taken .resume with stop := s.stop.release } : State).withQueue queue).oweStop

/-- Settles O20: the causes and the latch decide; each timer resumes by `Placement.resume_eq`. -/
theorem resumeReleasesTheLatch : Obligations.ResumeReleasesTheLatch := by
  refine fun s ready => ⟨fun present => ?_, fun empty released => ?_, fun empty set => ?_⟩
  · exact State.onRequest_refused ready (if_pos (by rw [Bool.not_eq_true']; exact present))
  · have reply : (s.taken .resume).replyResume = (s.taken .resume).accept := by
      rw [State.replyResume, State.taken_stop, empty, released]; rfl
    have answered := State.onRequest_accepted (k := .resume) ready reply
    exact answered
  · have reply : (s.taken .resume).replyResume
        = (s.resumedWith (s.admission.queue.map (Placement.resume s.now))).evalHead.accept := by
      rw [State.replyResume, State.taken_stop, empty, set]; rfl
    have answered := State.onRequest_accepted (k := .resume) ready reply
    refine answered.trans (congrArg
      (fun queue => Host.Outcome.next ((s.resumedWith queue).evalHead.produce 0x30 .ok .plain))
      (List.map_congr_left fun p _ => (p.resume_eq s.now).trans (if_congr Iff.rfl rfl ?_)))
    cases p.motion <;> rfl

end Sys2Proof.Machine

namespace Sys2Proof.Machine

/-! ### The gates of R48 one after another -/

/-- The gates in R48's order. -/
def WaitReason.gates : List WaitReason :=
  [.notOnline, .notCalm, .stopped, .viewLag, .viewDoubt, .mapFull, .cellsHeld, .linkFail, .linkBusy]

/-- A gate of R48 holds for a head. -/
def State.gateOpen (s : State) (p : Placement) : WaitReason → Bool
  | .notOnline => s.site.state == .online
  | .notCalm => s.monitor.state == .calm
  | .stopped => s.stopClear
  | .viewLag => !s.rx.lag
  | .viewDoubt => s.notice.doubtDue.isNone
  | .mapFull => s.ownRoom
  | .cellsHeld => (s.blockingStation p.cells (s.precedenceOf p)).isNone
  | .linkFail => p.holdoff.isNone
  | .linkBusy => s.urgentRoom

/-- The blocking station that a wait with this reason names (R49). -/
def State.stationAt (s : State) (p : Placement) : WaitReason → Option Nat
  | .cellsHeld => s.blockingStation p.cells (s.precedenceOf p)
  | .notOnline | .notCalm | .stopped | .viewLag | .viewDoubt | .mapFull | .linkFail | .linkBusy => none

/-- The first gate of a list that does not hold. -/
def State.firstClosed (s : State) (p : Placement) (gates : List WaitReason) :
    Option (WaitReason × Option Nat) :=
  (gates.find? fun r => !s.gateOpen p r).map fun r => (r, s.stationAt p r)

section
variable {s : State} {p : Placement} {r : WaitReason} {rest : List WaitReason}

theorem State.firstClosed_of_closed (closed : s.gateOpen p r = false) :
    s.firstClosed p (r :: rest) = some (r, s.stationAt p r) := by
  rw [State.firstClosed, List.find?_cons_of_pos (by rw [closed]; rfl)]; rfl

theorem State.firstClosed_of_open (opened : s.gateOpen p r = true) :
    s.firstClosed p (r :: rest) = s.firstClosed p rest := by
  rw [State.firstClosed, List.find?_cons_of_neg (by rw [opened]; decide)]; rfl

/-- The gates passed before one that does not hold. -/
theorem State.firstClosed_append {passed : List WaitReason} (opened : ∀ x ∈ passed, s.gateOpen p x = true)
    (closed : s.gateOpen p r = false) :
    s.firstClosed p (passed ++ r :: rest) = some (r, s.stationAt p r) := by
  induction passed with
  | nil => exact State.firstClosed_of_closed closed
  | cons x passed ih =>
    rw [List.cons_append, State.firstClosed_of_open (opened x (.head _))]
    exact ih fun y held => opened y (.tail _ held)

theorem State.firstClosed_none {gates : List WaitReason} (opened : ∀ x ∈ gates, s.gateOpen p x = true) :
    s.firstClosed p gates = none := by
  rw [State.firstClosed, List.find?_eq_none.2 (fun x held => by rw [opened x held]; decide)]; rfl

end

/-- The failed gate is the first of R48's order that does not hold. -/
theorem State.failedGate_eq (s : State) (p : Placement) :
    s.failedGate p = s.firstClosed p WaitReason.gates := by
  unfold State.failedGate WaitReason.gates
  split
  next off => exact (State.firstClosed_of_closed (by simpa [State.gateOpen] using off)).symm
  next online =>
  rw [State.firstClosed_of_open (by simpa [State.gateOpen] using online)]
  split
  next halted => exact (State.firstClosed_of_closed (by simpa [State.gateOpen] using halted)).symm
  next calm =>
  rw [State.firstClosed_of_open (by simpa [State.gateOpen] using calm)]
  split
  next stopped => exact (State.firstClosed_of_closed (by simpa [State.gateOpen] using stopped)).symm
  next clear =>
  rw [State.firstClosed_of_open (by simpa [State.gateOpen] using clear)]
  split
  next lags => exact (State.firstClosed_of_closed (by simpa [State.gateOpen] using lags)).symm
  next prompt =>
  rw [State.firstClosed_of_open (by simpa [State.gateOpen] using prompt)]
  split
  next doubt => exact (State.firstClosed_of_closed (by rw [State.gateOpen, ← Option.not_isSome, doubt]; rfl)).symm
  next certain =>
  rw [State.firstClosed_of_open (by rw [State.gateOpen, ← Option.not_isSome]; simpa using certain)]
  split
  next full => exact (State.firstClosed_of_closed (by simpa [State.gateOpen] using full)).symm
  next room =>
  rw [State.firstClosed_of_open (by simpa [State.gateOpen] using room)]
  split
  next station held =>
    rw [State.firstClosed_of_closed (by simp [State.gateOpen, held]), State.stationAt, held]
  next free =>
  rw [State.firstClosed_of_open (by simp [State.gateOpen, free])]
  split
  next holdoff =>
    exact (State.firstClosed_of_closed (by rw [State.gateOpen, ← Option.not_isSome, holdoff]; rfl)).symm
  next released =>
  rw [State.firstClosed_of_open (by rw [State.gateOpen, ← Option.not_isSome]; simpa using released)]
  split
  next busy => exact (State.firstClosed_of_closed (by simpa [State.gateOpen] using busy)).symm
  next room => rw [State.firstClosed_of_open (by simpa [State.gateOpen] using room)]; rfl

theorem CauseSet.isEmpty_iff_eq {cs : CauseSet} : cs.isEmpty = true ↔ cs = .empty := by
  obtain ⟨a, b, c, d, e, f⟩ := cs
  simp [CauseSet.isEmpty, CauseSet.empty, and_assoc]

theorem sharesCell_iff {a b : List Nat} : sharesCell a b = true ↔ ∃ x ∈ a, x ∈ b := by
  simp [sharesCell]

/-- What it is for a peer entry to block these cells (R49, R84). -/
theorem PeerEntry.blocks_iff {e : PeerEntry} {cells : List Nat} {precedence : Nat} :
    e.blocks cells precedence = true ↔
      (∃ x ∈ cells, x ∈ e.cells) ∧ (e.state ≠ .tentative ∨ e.precedence < precedence) := by
  rw [PeerEntry.blocks, Bool.and_eq_true, sharesCell_iff, Bool.or_eq_true, bne_iff_ne,
    decide_eq_true_iff]

/-- The blocking station is the lowest among those of the entries that block. -/
theorem State.blockingStation_eq_some {s : State} {cells : List Nat} {precedence : Nat} {e : PeerEntry}
    (held : e ∈ s.claims.peers) (blocks : e.blocks cells precedence = true)
    (lowest : ∀ x ∈ s.claims.peers, x.blocks cells precedence = true → e.station ≤ x.station) :
    s.blockingStation cells precedence = some e.station := by
  rw [State.blockingStation, List.min?_eq_some_iff]
  refine ⟨List.mem_map.2 ⟨e, List.mem_filter.2 ⟨held, blocks⟩, rfl⟩, fun n named => ?_⟩
  obtain ⟨x, member, rfl⟩ := List.mem_map.1 named
  obtain ⟨there, also⟩ := List.mem_filter.1 member
  exact lowest x there also

/-- What each gate of R48 says. -/
theorem State.gateOpen_iff {s : State} {p : Placement} (r : WaitReason) :
    s.gateOpen p r = true ↔
      match r with
      | .notOnline => s.site.state = .online
      | .notCalm => s.monitor.state = .calm
      | .stopped => s.stop.causes = .empty ∧ s.stop.latch = false
      | .viewLag => s.rx.lag = false
      | .viewDoubt => s.notice.doubtDue = none
      | .mapFull => s.map.records.length < 1024
      | .cellsHeld => ∀ e, ¬ (e ∈ s.claims.peers ∧ (∃ x ∈ p.cells, x ∈ e.cells)
          ∧ (e.state ≠ .tentative ∨ e.precedence < p.target.course * 32 + s.cfg.station))
      | .linkFail => p.holdoff = none
      | .linkBusy =>
        s.site.leaveExpired = false
          ∧ s.tx.urgent.length + s.claims.own.countP (fun c => c.announce == .owed) < 8 := by
  cases r with
  | stopped =>
    simp only [State.gateOpen, State.stopClear, Bool.and_eq_true, CauseSet.isEmpty_iff_eq,
      Bool.not_eq_true']
  | cellsHeld =>
    simp only [State.gateOpen, Option.isNone_iff_eq_none, State.blockingStation_eq_none,
      ← Bool.not_eq_true, PeerEntry.blocks_iff]
    exact forall_congr' fun e => not_and.symm
  | mapFull => exact decide_eq_true_iff
  | linkBusy =>
    simp only [State.gateOpen, State.urgentRoom, Bool.and_eq_true, Bool.not_eq_true', decide_eq_true_eq]
    rfl
  | _ => simp [State.gateOpen]

/-! ### Evaluations of the head (R44 to R51) -/

section
variable {s : State} {p : Placement}

theorem State.judgeHead_taken (taken : s.readSlot p.target ≠ .vacant) :
    s.judgeHead p = .fail .slotTaken := if_pos taken

theorem State.judgeHead_gap (vacant : s.readSlot p.target = .vacant)
    (gap : (s.wall p.target.wall).gap = true) : s.judgeHead p = .fail .viewGap := by
  rw [State.judgeHead, if_neg (not_not.2 vacant), if_pos gap]

theorem State.judgeHead_missing (vacant : s.readSlot p.target = .vacant)
    (whole : (s.wall p.target.wall).gap = false) {slot : Slot}
    (missing : s.missingSupport p.target = some slot) : s.judgeHead p = .support slot := by
  simp only [State.judgeHead, vacant, whole, missing]
  rfl

theorem State.judgeHead_gate (vacant : s.readSlot p.target = .vacant)
    (whole : (s.wall p.target.wall).gap = false) (supported : s.missingSupport p.target = none)
    {r : WaitReason} {station : Option Nat} (failed : s.failedGate p = some (r, station)) :
    s.judgeHead p = .wait r station := by
  simp only [State.judgeHead, vacant, whole, supported, failed]
  rfl

/-- Admission is open with no placement announced or FIRM and fewer than two own claims (R43). -/
theorem State.admissionOpen_iff : s.admissionOpen = true ↔
    (∀ q ∈ s.admission.queue, q.state.closes = false) ∧ s.claims.own.length < 2 := by
  simp only [State.admissionOpen, Bool.and_eq_true, Bool.not_eq_true', List.any_eq_false,
    Bool.not_eq_true, decide_eq_true_eq]
  rfl

/-- The number of a claim made while fewer than two are held is the counter, or one past it (R71). -/
theorem ClaimUnit.nextNumber_eq {u : ClaimUnit} (room : u.own.length < 2) :
    u.nextNumber = if u.own.any fun c => c.number == u.counter then u.counter + 1 else u.counter := by
  match own : u.own, room with
  | [], _ => rw [ClaimUnit.nextNumber, own]; rfl
  | [c], _ =>
    have same : [c.number].contains u.counter = [c].any fun c => c.number == u.counter := by
      simp only [List.contains_cons, List.contains_nil, Bool.or_false, List.any_cons, List.any_nil]
      exact Bool.beq_comm
    rw [ClaimUnit.nextNumber, own, ← same]; rfl
  | _ :: _ :: _, room => simp at room

end

/-- Settles O15: the verdict on the first waiting placement says what the evaluation does. -/
theorem headEvaluationActs : Obligations.HeadEvaluationActs := by
  refine ⟨fun s shut => ?_, fun s before after p calm room queue first head => ?_⟩
  · obtain ⟨p, held, closes⟩ | full | idle := shut
    · refine State.evalHead_of_closed (Bool.eq_false_iff.2 fun opened => ?_)
      have kept := (State.admissionOpen_iff.1 opened).1 p held
      rw [PlacementState.closes_iff.2 closes] at kept
      cases kept
    · exact State.evalHead_of_closed
        (Bool.eq_false_iff.2 fun opened => by have := (State.admissionOpen_iff.1 opened).2; omega)
    · exact State.evalHead_of_no_head (List.findIdx?_eq_none_iff.2 fun p held =>
        Bool.eq_false_iff.2 fun waits => idle p held (PlacementState.waits_iff.1 waits))
  · have opened : s.admissionOpen = true := State.admissionOpen_iff.2
      ⟨fun q held => Bool.eq_false_iff.2 fun closes => calm q held (PlacementState.closes_iff.1 closes), room⟩
    have verdict := State.evalHead_verdict opened queue
      (fun q held => Bool.eq_false_iff.2 fun waits => first q held (PlacementState.waits_iff.1 waits))
      (PlacementState.waits_iff.2 head)
    refine ⟨fun taken => ?_, fun vacant gap => ?_, fun vacant whole => ⟨fun slot missing => ?_,
      fun supported => ⟨fun passed rest r gates opens closed => ?_, fun opens => ?_⟩⟩⟩
    · rw [verdict, State.judgeHead_taken taken]; rfl
    · rw [verdict, State.judgeHead_gap vacant gap]; rfl
    · rw [verdict, State.judgeHead_missing vacant whole missing]
      simp only
      rw [State.mapPlacement_split queue, State.mapPlacement_split queue]
      rfl
    · have failed : s.failedGate p = some (r, s.stationAt p r) := by
        rw [State.failedGate_eq, WaitReason.gates, gates]
        refine State.firstClosed_append (fun x held => (State.gateOpen_iff x).2 ?_)
          (Bool.eq_false_iff.2 fun holds => closed ?_)
        · have := opens x held
          cases x <;> exact this
        · have := (State.gateOpen_iff r).1 holds
          cases r <;> exact this
      rw [verdict, State.judgeHead_gate vacant whole supported failed]
      refine ⟨fun other => ?_, fun named e blocks lowest => ?_⟩
      · have free : s.stationAt p r = Option.none := by
          cases r <;> simp only [State.stationAt, ne_eq, not_true_eq_false] at other ⊢
        rw [free]; rfl
      · subst named
        have station : s.stationAt p .cellsHeld = some e.station :=
          State.blockingStation_eq_some blocks.1 (PeerEntry.blocks_iff.2 blocks.2)
            fun x there also => lowest x ⟨there, PeerEntry.blocks_iff.1 also⟩
        rw [station]; rfl
    · have none : s.failedGate p = none := by
        rw [State.failedGate_eq]
        refine State.firstClosed_none fun x _ => (State.gateOpen_iff x).2 ?_
        have := opens x
        cases x <;> exact this
      have number := ClaimUnit.nextNumber_eq room
      rw [verdict, State.judgeHead_announce_iff.2 ⟨vacant, whole, supported, none⟩, ← number]
      rfl

end Sys2Proof.Machine

namespace Sys2Proof.Machine

/-! ### The first element that satisfies a test -/

theorem find?_split {α : Type} {p : α → Bool} {before after : List α} {x : α}
    (older : ∀ y ∈ before, p y = false) (found : p x = true) :
    (before ++ x :: after).find? p = some x := by
  rw [List.find?_append, List.find?_eq_none.2 fun y held => Bool.eq_false_iff.1 (older y held),
    List.find?_cons_of_pos found]
  rfl

theorem State.announcedIndex_none {s : State}
    (calm : ∀ p ∈ s.admission.queue, p.state ≠ .announcing ∧ p.state ≠ .tentative) :
    s.announcedIndex = none :=
  List.findIdx?_eq_none_iff.2 fun p held => PlacementState.announced_eq_false (calm p held)

theorem State.announcedIndex_split {s : State} {before after : List Placement} {p : Placement}
    (queue : s.admission.queue = before ++ p :: after)
    (older : ∀ q ∈ before, q.state ≠ .announcing ∧ q.state ≠ .tentative)
    (announced : p.state = .announcing ∨ p.state = .tentative) :
    s.announcedIndex = some before.length ∧ s.admission.queue[before.length]? = some p := by
  refine ⟨?_, by rw [queue]; simp⟩
  rw [State.announcedIndex, queue]
  exact findIdx?_split (fun q held => PlacementState.announced_eq_false (older q held))
    (PlacementState.announced_iff.2 announced)

/-! ### The FIRM decision (R85 to R87) -/

section
variable {s : State} {before after : List OwnClaim} {c : OwnClaim}

theorem ClaimState.ne_tentative {x : ClaimState} (h : x ≠ .tentative) : (x == .tentative) = false :=
  beq_eq_false_iff_ne.2 h

theorem State.settledClaim_split (running : s.inRestart = false) (own : s.claims.own = before ++ c :: after)
    (older : ∀ x ∈ before, x.state ≠ .tentative) (settles : c.settles s.now = true) :
    s.settledClaim = some c := by
  rw [State.settledClaim, running, if_neg (by decide), own]
  refine find?_split (fun x held => ?_) settles
  rw [OwnClaim.settles, ClaimState.ne_tentative (older x held)]; rfl

/-- The decision of the first TENTATIVE claim is due where a finished frame has marked it so (R86). -/
theorem State.dueClaim_split (running : s.inRestart = false) (own : s.claims.own = before ++ c :: after)
    (older : ∀ x ∈ before, x.state ≠ .tentative) (state : c.state = .tentative)
    (kept : c.abandoned = false) (due : c.decision = .due) : s.dueClaim = some c := by
  rw [State.dueClaim, running, if_neg (by decide), own]
  refine find?_split (fun x held => ?_) ?_
  · rw [ClaimState.ne_tentative (older x held), Bool.and_false]; rfl
  · rw [state, kept, due]; rfl

theorem State.lapseReady_iff {n : Octet} :
    s.lapseReady n = true ↔
      s.inRestart = false ∧ ∃ c sent, s.ownClaim n = some c ∧ (c.state = .firm ∨ c.state = .seated)
        ∧ c.abandoned = false ∧ c.lapsed = false ∧ c.lastSend = some sent
        ∧ reached s.now (later sent (2 * s.cfg.refresh)) = true := by
  have state (x : ClaimState) : (x != .tentative) = true ↔ x = .firm ∨ x = .seated := by
    cases x <;> simp
  have lapses (c : OwnClaim) : c.lapses s.now s.cfg.refresh = true ↔
      ∃ sent, (c.state = .firm ∨ c.state = .seated) ∧ c.abandoned = false ∧ c.lapsed = false
        ∧ c.lastSend = some sent ∧ reached s.now (later sent (2 * s.cfg.refresh)) = true := by
    cases last : c.lastSend with
    | none => simp [OwnClaim.lapses, last, reachedSome]
    | some sent => simp [OwnClaim.lapses, last, reachedSome, state, and_assoc]
  rw [State.lapseReady, Bool.and_eq_true, Bool.not_eq_true', Option.any_eq_true]
  simp only [lapses]
  exact and_congr_right fun _ => ⟨fun ⟨c, found, sent, rest⟩ => ⟨c, sent, found, rest⟩,
    fun ⟨c, sent, found, rest⟩ => ⟨c, found, sent, rest⟩⟩

/-- What makes the decision yield (R87). -/
theorem State.decisionYields_iff : s.decisionYields c = true ↔
    s.blockingStation c.cells c.precedence ≠ none ∨ s.monitor.state ≠ .calm ∨ s.stopClear = false
      ∨ s.notice.doubtDue ≠ none := by
  simp only [State.decisionYields, Bool.or_eq_true, Option.isSome_iff_ne_none, bne_iff_ne, Bool.not_eq_true',
    or_assoc, ne_eq]

end

/-- Settles O16: the first TENTATIVE claim is the one that settles, and `State.decide` goes by its gates. -/
theorem settledClaimsAreDecided : Obligations.SettledClaimsAreDecided := by
  refine ⟨fun s before after c due running own older state kept set => ⟨fun undecided late =>
    ⟨fun empty => ?_, fun older' newest frames => ?_⟩, fun decided => ?_⟩,
    fun s c => ⟨fun gates => ?_, fun yields => ?_⟩,
    fun s n => State.lapseReady_iff⟩
  · have settles : c.settles s.now = true := by
      rw [OwnClaim.settles, state, kept, undecided, set]; exact late
    change execSettleExpiry s = _
    rw [execSettleExpiry, State.settledClaim_split running own older settles]
    simp only [State.settleClaim, empty]
    rfl
  · have settles : c.settles s.now = true := by
      rw [OwnClaim.settles, state, kept, undecided, set]; exact late
    change execSettleExpiry s = _
    rw [execSettleExpiry, State.settledClaim_split running own older settles]
    simp only [State.settleClaim, frames, Receiver.newestPos, List.dropLast_concat]
    rw [if_neg (by simp)]
    rfl
  · change execFirmDecision s = _
    rw [execFirmDecision, State.takeDecision, State.dueClaim_split running own older state kept decided]
  · have firm : s.decisionYields c = false := Bool.eq_false_iff.2 fun yields => by
      obtain ⟨free, calm, clear, certain⟩ := gates
      rcases State.decisionYields_iff.1 yields with blocked | uncalm | stopped | doubt
      · exact blocked free
      · exact uncalm calm
      · rw [clear] at stopped; cases stopped
      · exact doubt certain
    have decided : s.decide c = (s.makeFirm c).reevaluate.lapseIfDue c.number := by
      rw [State.decide, firm, if_neg (by decide)]; rfl
    exact ⟨fun prompt => decided.trans (if_neg (by rw [Bool.not_eq_true]; exact prompt)),
      fun lapsed => decided.trans (if_pos lapsed)⟩
  · rw [State.decide, State.decisionYields_iff.2 yields, if_pos rfl]

end Sys2Proof.Machine

namespace Sys2Proof.Machine

/-! ### Claims abandoned (R52) -/

section
variable {s : State} {c : OwnClaim} {tag : Octet}

theorem State.abandonTag_none (unserved : s.claimOf tag = none) : s.abandonTag tag = s := by
  rw [State.abandonTag, unserved]

theorem State.abandonTag_some (served : s.claimOf tag = some c) : s.abandonTag tag = s.abandonClaim c := by
  rw [State.abandonTag, served]

theorem State.claimFrame_other {n : Octet}
    (other : ∀ f, s.tx.current = some f → f.source ≠ .claim n false) : s.claimFrame n = .none := by
  cases current : s.tx.current with
  | none => simp only [State.claimFrame, current]
  | some f => simp only [State.claimFrame, current, if_neg (other f current)]

theorem State.claimFrame_own {n : Octet} {f : CurrentFrame} (current : s.tx.current = some f)
    (own : f.source = .claim n false) :
    s.claimFrame n = if f.phase = .sending then .sending else .waiting := by
  simp only [State.claimFrame, current, if_pos own]

theorem State.abandonClaim_gone (frame : s.claimFrame c.number = .none) :
    s.abandonClaim c = (s.removeClaimRecords c.number).dismissClaim c := by
  simp only [State.abandonClaim, frame]

theorem State.abandonClaim_waiting (frame : s.claimFrame c.number = .waiting) :
    s.abandonClaim c = ((s.removeClaimRecords c.number).withCurrent none).dismissClaim c := by
  simp only [State.abandonClaim, frame]

theorem State.abandonClaim_sending (frame : s.claimFrame c.number = .sending) :
    s.abandonClaim c = (s.removeClaimRecords c.number).mapClaim c.number fun x =>
      { x with abandoned := true, announce := .nothing, decision := .notDue, settleDue := none } := by
  simp only [State.abandonClaim, frame]

theorem State.urgentFree_iff :
    s.urgentFree = true ↔ s.site.leaveExpired = false ∧ s.tx.urgent.length < 8 := by
  simp only [State.urgentFree, Bool.and_eq_true, Bool.not_eq_true', decide_eq_true_eq]
  rfl

/-- A RELEASE takes a place behind the OWED announces, if there is one (R52, R104). -/
theorem State.queueRelease_eq {n : Octet} :
    s.queueRelease n =
      if s.serveOwed.site.leaveExpired = false ∧ s.serveOwed.tx.urgent.length < 8 then
        s.serveOwed.pushUrgent (.release n)
      else s.serveOwed :=
  if_congr State.urgentFree_iff rfl rfl

/-- A claim that goes queues a RELEASE if a CLAIM of it was sent. -/
theorem State.dismissClaim_eq :
    s.dismissClaim c =
      if c.lastSend = none then s.deleteClaim c.number
      else (s.deleteClaim c.number).queueRelease c.number := by
  unfold State.dismissClaim
  cases c.lastSend <;> rfl

end

/-! ### The OWED announces take the free urgent places (R73, R104) -/

/-- The claims of these numbers queued, their records behind the urgent queue. -/
def State.withServed (s : State) (served : List Octet) : State :=
  (s.withOwn (s.claims.own.map fun c =>
    if c.number ∈ served then { c with announce := .queued } else c)).withUrgent
      (s.tx.urgent ++ served.map .claim)

theorem State.withServed_nil (s : State) : s.withServed [] = s := by
  have own : (s.claims.own.map fun c =>
      if c.number ∈ ([] : List Octet) then { c with announce := .queued } else c) = s.claims.own := by
    simp
  rw [State.withServed, own, List.map_nil, List.append_nil]
  rfl

/-- Claims queued one after another are queued together. -/
theorem State.withServed_cons (s : State) (n : Octet) (served : List Octet) :
    (s.queueClaim n).withServed served = s.withServed (n :: served) := by
  have own : ((s.queueClaim n).claims.own.map fun c =>
        if c.number ∈ served then { c with announce := .queued } else c)
      = s.claims.own.map fun c =>
        if c.number ∈ n :: served then { c with announce := .queued } else c := by
    change (s.claims.own.map _).map _ = _
    rw [List.map_map]
    refine List.map_congr_left fun c _ => ?_
    by_cases named : c.number = n <;> by_cases held : c.number ∈ served <;>
      simp_all [Function.comp]
  have urgent : (s.queueClaim n).tx.urgent ++ served.map .claim
      = s.tx.urgent ++ (n :: served).map .claim := by
    change (s.tx.urgent ++ [.claim n]) ++ _ = _
    simp
  rw [State.withServed, own, urgent]
  rfl

/-- The free places go to the OWED claims of a list in its order. -/
theorem State.foldl_offerUrgent (l : List OwnClaim) (s : State) (free : s.site.leaveExpired = false) :
    l.foldl State.offerUrgent s
      = s.withServed (((l.filter fun c => c.announce == .owed).take (8 - s.tx.urgent.length)).map
        OwnClaim.number) := by
  induction l generalizing s with
  | nil =>
    rw [List.filter_nil, List.take_nil, List.map_nil, State.withServed_nil]
    rfl
  | cons c l ih =>
    rw [List.foldl_cons]
    by_cases owed : c.announce = .owed
    · rw [List.filter_cons_of_pos (by rw [owed]; rfl)]
      by_cases room : s.tx.urgent.length < 8
      · have offered : s.offerUrgent c = s.queueClaim c.number :=
          if_pos (by rw [owed, State.urgentFree_iff.2 ⟨free, room⟩]; rfl)
        have grown : (s.queueClaim c.number).tx.urgent.length = s.tx.urgent.length + 1 :=
          List.length_append
        have left : 8 - s.tx.urgent.length = (8 - (s.tx.urgent.length + 1)) + 1 := by omega
        rw [offered, ih (s.queueClaim c.number) free, State.withServed_cons, grown, left, List.take_succ_cons, List.map_cons]
      · have offered : s.offerUrgent c = s := if_neg fun holds => by
          simp only [Bool.and_eq_true, State.urgentFree_iff] at holds
          exact room holds.2.2
        have full : 8 - s.tx.urgent.length = 0 := by omega
        rw [offered, ih s free, full, List.take_zero, List.take_zero]
    · have offered : s.offerUrgent c = s := if_neg (by simp [owed])
      rw [offered, ih s free, List.filter_cons_of_neg (by simpa using owed)]

theorem State.serveOwed_expired {s : State} (expired : s.site.leaveExpired = true) : s.serveOwed = s := by
  have unoffered (c : OwnClaim) : s.offerUrgent c = s :=
    if_neg (by simp [State.urgentFree, expired])
  have none (l : List OwnClaim) : l.foldl State.offerUrgent s = s := by
    induction l with
    | nil => rfl
    | cons c l ih => rw [List.foldl_cons, unoffered, ih]
  exact none _

theorem State.requestAnnounce_none {s : State} {n : Octet} (absent : s.ownClaim n = none) :
    s.requestAnnounce n = s := by
  rw [State.requestAnnounce, absent]

theorem State.requestAnnounce_some {s : State} {n : Octet} {c : OwnClaim} (found : s.ownClaim n = some c) :
    s.requestAnnounce n =
      if c.announce = .nothing then
        if s.serveOwed.urgentFree then s.serveOwed.queueClaim n
        else s.serveOwed.mapClaim n fun c => { c with announce := .owed }
      else s := by
  simp only [State.requestAnnounce, found]

/-- The placement that is announced yields (R53). -/
theorem State.yieldAnnounced_split {s : State} {before after : List Placement} {p : Placement}
    (queue : s.admission.queue = before ++ p :: after)
    (older : ∀ q ∈ before, q.state ≠ .announcing ∧ q.state ≠ .tentative)
    (announced : p.state = .announcing ∨ p.state = .tentative) :
    s.yieldAnnounced =
      { (s.abandonTag p.tag).mapPlacement before.length fun q =>
          q.yield (WaitReason.ofIndex (Config.yieldReason s.freeCount)) with
        freeCount := s.freeCount + 1 } := by
  obtain ⟨index, place⟩ := State.announcedIndex_split queue older announced
  simp only [State.yieldAnnounced, index, place]

/-- Settles O17: a claim goes by the place of its frame, and the OWED announces are served by a fold. -/
theorem yieldsAbandonTheClaim : Obligations.YieldsAbandonTheClaim := by
  refine ⟨fun s => ⟨fun none => State.yieldAnnounced_of_none (State.announcedIndex_none none),
    fun _ _ _ => State.yieldAnnounced_split⟩, fun s tag => ⟨State.abandonTag_none, fun c served => ?_⟩,
    fun s _ => ⟨State.serveOwed_expired, fun free => State.foldl_offerUrgent _ s free⟩,
    fun s n => ⟨State.requestAnnounce_none, fun c found => ⟨fun other => ?_, fun nothing =>
      ⟨fun free room => ?_, fun full => ?_⟩⟩⟩⟩
  · rw [State.abandonTag_some served]
    refine ⟨fun other => ?_, fun f current own => ⟨fun still => ?_, fun sending => ?_⟩⟩
    · rw [State.abandonClaim_gone (State.claimFrame_other other), State.dismissClaim_eq,
        State.queueRelease_eq]
      rfl
    · rw [State.abandonClaim_waiting ((State.claimFrame_own current own).trans (if_neg still)),
        State.dismissClaim_eq, State.queueRelease_eq]
      rfl
    · rw [State.abandonClaim_sending ((State.claimFrame_own current own).trans (if_pos sending))]
      rfl
  · rw [State.requestAnnounce_some found, if_neg other]
  · rw [State.requestAnnounce_some found, if_pos nothing, if_pos (State.urgentFree_iff.2 ⟨free, room⟩)]
    rfl
  · rw [State.requestAnnounce_some found, if_pos nothing, if_neg]
    rw [State.urgentFree_iff, not_and_or, Bool.not_eq_false, Nat.not_lt]
    exact full

end Sys2Proof.Machine

namespace Sys2Proof.Machine

/-! ### CLAIM_CONFLICT and the conflict station (R91) -/

section
variable {s : State} {n : Nat}

theorem ClaimUnit.mem_conflictStations {u : ClaimUnit} : n ∈ u.conflictStations ↔
    ∃ e, (e ∈ u.peers ∧ e.state ≠ .tentative ∧ ∃ c ∈ u.own, c.state ≠ .tentative ∧ c.abandoned = false
      ∧ ∃ x ∈ c.cells, x ∈ e.cells) ∧ e.station = n := by
  simp [ClaimUnit.conflictStations, sharesCell_iff, and_assoc]

theorem State.conflictTest_none (none : s.claims.conflictStations.min? = none) :
    s.conflictTest = s.causeLeaves .claimConflict := by
  simp only [State.conflictTest, none]

theorem State.conflictTest_present (lowest : s.claims.conflictStations.min? = some n)
    (present : s.stop.causes.claimConflict = true) : s.conflictTest = s.nameConflict n := by
  simp only [State.conflictTest, lowest, present, if_true]

theorem State.conflictTest_absent (lowest : s.claims.conflictStations.min? = some n)
    (absent : s.stop.causes.claimConflict = false) :
    s.conflictTest = ((s.causeJoins .claimConflict).nameConflict n).yieldAnnounced := by
  simp only [State.conflictTest, lowest, absent, Bool.false_eq_true, if_false]

/-- A cause that joins owes a stop report (R159). -/
theorem State.causeJoins_owes {c : Cause} (absent : s.stop.causes.has c = false) :
    (s.causeJoins c).port.stopOwed = true := by
  rw [State.causeJoins, absent, if_neg (by decide)]
  dsimp only
  split <;> rfl

/-- With the stop report owed already, the conflict station is all that a naming changes. -/
theorem State.nameConflict_owed (owed : s.port.stopOwed = true) :
    s.nameConflict n = { s with stop := { s.stop with conflictStation := some n } } := by
  unfold State.nameConflict
  split
  next named => rw [← named]
  next => rw [State.oweStop, show ({ s.port with stopOwed := true } : ArmPort) = s.port by rw [← owed]]

end

/-! ### Announced placements under re-evaluation (R55, R84) -/

section
variable {s : State} {before after : List Placement} {p : Placement}

theorem State.blockingTest_none (none : s.announcedIndex = none) : s.blockingTest = s := by
  rw [State.blockingTest, none]; rfl

theorem State.blockingTest_some {i : Nat} {c : OwnClaim} (index : s.announcedIndex = some i)
    (place : s.admission.queue[i]? = some p) (served : s.claimOf p.tag = some c) :
    s.blockingTest =
      if (s.blockingStation c.cells c.precedence).isSome then s.yieldAnnounced else s := by
  simp only [State.blockingTest, index, Option.bind_some, place, served]

theorem State.mapChanged_none (none : s.announcedIndex = none) : s.mapChanged = s.evalHead := by
  rw [State.mapChanged, none]

theorem State.mapChanged_some {i : Nat} (index : s.announcedIndex = some i)
    (place : s.admission.queue[i]? = some p) :
    s.mapChanged =
      if s.readSlot p.target ≠ .vacant then
        ((s.abandonTag p.tag).mapPlacement i fun p => p.fail .slotTaken).reevaluate
      else if (s.wall p.target.wall).gap then
        ((s.abandonTag p.tag).mapPlacement i fun p => p.fail .viewGap).reevaluate
      else s := by
  simp only [State.mapChanged, index, place]

end

/-- Settles O18: the steps of R83 in turn, the conflict test by the lowest conflicting station. -/
theorem conflictsAreReevaluated : Obligations.ConflictsAreReevaluated := by
  refine ⟨fun s => rfl, fun s before after p c queue older announced served => ?_,
    fun s => ⟨fun calm => State.blockingTest_none (State.announcedIndex_none calm),
      fun unmet => ?_, fun e meets lowest => ?_⟩, fun s => rfl,
    fun s before after p queue older announced => ?_,
    fun s calm => State.mapChanged_none (State.announcedIndex_none calm)⟩
  · obtain ⟨index, place⟩ := State.announcedIndex_split queue older announced
    rw [State.blockingTest_some index place served]
    refine ⟨fun ⟨e, held, blocks⟩ => if_pos ?_, fun free => if_neg ?_⟩
    · rw [Option.isSome_iff_ne_none]
      intro none
      have := State.blockingStation_eq_none.1 none e held
      rw [PeerEntry.blocks_iff.2 blocks] at this
      cases this
    · rw [State.blockingStation_eq_none.2 fun e held => Bool.eq_false_iff.2 fun blocks =>
        free ⟨e, held, PeerEntry.blocks_iff.1 blocks⟩]
      decide
  · refine State.conflictTest_none (List.min?_eq_none_iff.2 (List.eq_nil_iff_forall_not_mem.2 ?_))
    intro n named
    obtain ⟨e, meets, -⟩ := ClaimUnit.mem_conflictStations.1 named
    exact unmet e meets
  · have least : s.claims.conflictStations.min? = some e.station := by
      rw [List.min?_eq_some_iff]
      refine ⟨ClaimUnit.mem_conflictStations.2 ⟨e, meets, rfl⟩, fun n named => ?_⟩
      obtain ⟨x, also, rfl⟩ := ClaimUnit.mem_conflictStations.1 named
      exact lowest x also
    refine ⟨fun present => ?_, fun absent => ?_⟩
    · rw [State.conflictTest_present least present]
      exact ⟨fun named => if_pos named, fun other => if_neg other⟩
    · rw [State.conflictTest_absent least absent, State.nameConflict_owed (State.causeJoins_owes (c := .claimConflict) absent)]
  · obtain ⟨index, place⟩ := State.announcedIndex_split queue older announced
    rw [State.mapChanged_some index place]
    exact ⟨fun taken => if_pos taken, fun vacant => by
      rw [if_neg (not_not.2 vacant)]
      exact ⟨fun gap => if_pos gap, fun whole => if_neg (Bool.eq_false_iff.1 whole)⟩⟩

end Sys2Proof.Machine

namespace Sys2Proof.Machine

section
variable {s : State}

/-- A wall's place is the only one that a change of it reads. -/
theorem State.mapWall_congr {w : Nat} {f g : WallPlace → WallPlace} (same : f (s.wall w) = g (s.wall w)) :
    s.mapWall w f = s.mapWall w g := by
  have walls : s.walls.modify w f = s.walls.modify w g := by
    refine List.ext_getElem? fun i => ?_
    rw [List.getElem?_modify, List.getElem?_modify]
    split
    next here =>
      subst here
      cases place : s.walls[w]? with
      | none => rfl
      | some p =>
        rw [State.wall, List.getD_eq_getElem?_getD, place] at same
        exact congrArg some same
    next => rfl
  rw [State.mapWall, walls, State.mapWall]

/-! ### Due timers of placements (R47, R50, R58) -/

theorem State.expiredSupport_some {i : Nat} {p : Placement} {due : LocalTime} (running : s.inRestart = false)
    (head : s.headIndex = some i) (place : s.admission.queue[i]? = some p) (state : p.state = .waitSupport)
    (set : p.supportDue = some due) (late : reached s.now due = true) : s.expiredSupport = some i := by
  have expired : p.supportExpired s.now = true := by
    rw [Placement.supportExpired, state, set]; exact late
  simp only [State.expiredSupport, running, head, place, Option.any_some, expired, Bool.false_eq_true,
    if_false, if_true]

theorem State.expiredMotion_split {before after : List Placement} {p : Placement} {due : LocalTime}
    (running : s.inRestart = false) (queue : s.admission.queue = before ++ p :: after)
    (older : ∀ q ∈ before, q.state ≠ .firm) (firm : p.state = .firm) (motion : p.motion = .running due)
    (late : reached s.now due = true) : s.expiredMotion = some before.length := by
  rw [State.expiredMotion, running, if_neg (by decide), queue]
  refine findIdx?_split (fun q held => ?_) ?_
  · rw [Placement.overruns, beq_eq_false_iff_ne.2 (older q held), Bool.false_and]
  · rw [Placement.overruns, firm, motion]; exact late

theorem State.endedHoldoff_split {before after : List Placement} {p : Placement} {due : LocalTime}
    (running : s.inRestart = false) (queue : s.admission.queue = before ++ p :: after)
    (older : ∀ q ∈ before, q.holdoff = none) (holdoff : p.holdoff = some due)
    (late : reached s.now due = true) : s.endedHoldoff = some before.length := by
  rw [State.endedHoldoff, running, if_neg (by decide), queue]
  refine findIdx?_split (fun q held => ?_) ?_
  · rw [older q held, reachedSome]
  · rw [holdoff]; exact late

/-! ### Survey windows (R133) -/

theorem State.windowReady_of {w : Nat} {x : SurveyWindow} (running : s.inRestart = false)
    (opened : (s.wall w).window = some x) (late : reached s.now x.due = true) : s.windowReady w = true := by
  rw [State.windowReady, running, opened]; exact late

/-- A window that has missed a notice, or whose wall has no gap flag, closes alone. -/
theorem State.closeWindow_alone {w : Nat} {x : SurveyWindow} (opened : (s.wall w).window = some x)
    (kept : x.dropMark = true ∨ (s.wall w).gap = false) :
    s.closeWindow w = s.mapWall w fun p => { p with window := none } := by
  have idle : ((((s.wall w).window.map SurveyWindow.dropMark) == some false) && (s.wall w).gap) = false := by
    rcases kept with marked | whole
    · rw [opened, Option.map_some, marked]; rfl
    · rw [whole, Bool.and_false]
  have gap : ((s.wall w).gap && !(((s.wall w).window.map SurveyWindow.dropMark) == some false))
      = (s.wall w).gap := by
    rcases kept with marked | whole
    · rw [opened, Option.map_some, marked]; exact Bool.and_true _
    · rw [whole, Bool.false_and]
  simp only [State.closeWindow, idle, Bool.false_eq_true, if_false]
  exact State.mapWall_congr (by rw [gap])

/-- A window that has missed nothing clears its wall's gap flag. -/
theorem State.closeWindow_clean {w : Nat} {x : SurveyWindow} (opened : (s.wall w).window = some x)
    (clean : x.dropMark = false) (gap : (s.wall w).gap = true) :
    s.closeWindow w = (s.mapWall w fun p => { p with window := none, gap := false }).oweSite.mapChanged := by
  have same : s.mapWall w (fun p => { p with window := none, gap := p.gap && !true })
      = s.mapWall w fun p => { p with window := none, gap := false } :=
    State.mapWall_congr (by rw [Bool.not_true, Bool.and_false])
  have cleared : (((s.wall w).window.map SurveyWindow.dropMark) == some false) = true := by
    rw [opened, Option.map_some, clean]; rfl
  simp only [State.closeWindow, cleared, gap, Bool.and_true, if_true]
  rw [same]

/-! ### Timers of claims and peer entries (R81, R89, R92) -/

theorem State.refreshReady_of {c : OwnClaim} {sent : LocalTime} (running : s.inRestart = false)
    (found : s.ownClaim c.number = some c) (kept : c.abandoned = false) (last : c.lastSend = some sent)
    (fresh : c.refreshTaken = false) (late : reached s.now (later sent s.cfg.refresh) = true) :
    s.refreshReady c.number = true := by
  rw [State.refreshReady, running, found, Option.any_some, OwnClaim.refreshes, kept, fresh, last]
  exact late

theorem State.peerReady_of {e : PeerEntry} (running : s.inRestart = false)
    (found : s.peerEntry e.station e.number = some e) (late : reached s.now e.expiry = true) :
    s.peerReady e.station e.number = true := by
  rw [State.peerReady, running, found, Option.any_some, late]; rfl

theorem State.claimToQueue_split {before after : List OwnClaim} {c : OwnClaim} (running : s.inRestart = false)
    (free : s.urgentFree = true) (own : s.claims.own = before ++ c :: after)
    (older : ∀ x ∈ before, x.announce ≠ .owed) (owed : c.announce = .owed) : s.claimToQueue = some c := by
  rw [State.claimToQueue, running, free, if_pos (by decide), State.owedClaim, own]
  exact find?_split (fun x held => beq_eq_false_iff_ne.2 (older x held)) (beq_iff_eq.2 owed)

end

/-- Settles O19: each timer's own test holds at its due time. -/
theorem timersActAtTheirDueTimes : Obligations.TimersActAtTheirDueTimes := by
  refine ⟨fun s i p due running head place state set late => ?_,
    fun s before after p due running queue older firm motion late => ?_,
    fun s before after p due running queue older holdoff late => ?_,
    fun s due running doubt late => ?_,
    fun s w x running inside opened late => ⟨fun kept => ?_, fun clean gap => ?_⟩,
    fun s c sent running found kept last => ⟨fun fresh late => ?_, fun unlapsed state late => ?_⟩,
    fun s e running found late => ?_,
    fun s before after c running unexpired room own older owed => ?_,
    fun s => ⟨fun ⟨c, held, lapsed⟩ => if_pos (List.any_eq_true.2 ⟨c, held, lapsed⟩),
      fun none => if_neg ?_⟩⟩
  · change execSupportWaitExpiry s = _
    rw [execSupportWaitExpiry, State.expiredSupport_some running head place state set late]
    rfl
  · change execMotionLimitExpiry s = _
    rw [execMotionLimitExpiry, State.expiredMotion_split running queue older firm motion late]
    rfl
  · change execLinkHoldoffEnd s = _
    rw [execLinkHoldoffEnd, State.endedHoldoff_split running queue older holdoff late]
  · have ready : s.doubtReady = true := by rw [State.doubtReady, running, doubt]; exact late
    change execViewDoubtExpiry s = _
    rw [execViewDoubtExpiry, if_pos ready]
    rfl
  · change execSurveyWindowClose w s = _
    rw [execSurveyWindowClose, if_pos (State.windowReady_of running opened late),
      State.closeWindow_alone opened kept]
    rfl
  · change execSurveyWindowClose w s = _
    rw [execSurveyWindowClose, if_pos (State.windowReady_of running opened late),
      State.closeWindow_clean opened clean gap]
    rfl
  · change execRefreshDue c.number s = _
    rw [execRefreshDue, if_pos (State.refreshReady_of running found kept last fresh late)]
    rfl
  · change execLapsePoint c.number s = _
    have ready : s.lapseReady c.number = true :=
      State.lapseReady_iff.2 ⟨running, c, sent, found, state, kept, unlapsed, last, late⟩
    rw [execLapsePoint, State.lapseIfDue, if_pos ready]
    rfl
  · change execPeerEntryExpiry e.station e.number s = _
    rw [execPeerEntryExpiry, if_pos (State.peerReady_of running found late)]
    rfl
  · change execClaimAnnounceQueued s = _
    rw [execClaimAnnounceQueued, State.claimToQueue_split running
      (State.urgentFree_iff.2 ⟨unexpired, room⟩) own older owed]
    rfl
  · rw [List.any_eq_true]
    rintro ⟨c, held, lapsed⟩
    rw [none c held] at lapsed
    cases lapsed

end Sys2Proof.Machine

namespace Sys2Proof.Machine

/-! ### Samples of LSTOP (R152, R153) -/

/-- The count of differing samples as given. -/
def State.withDiffer (s : State) (n : Nat) : State := { s with stop := { s.stop with lstopDiffer := n } }

section
variable {s : State} {low : Bool}

theorem State.sampleLstop_agrees (agrees : low = s.stop.lstopStop) :
    s.sampleLstop low = s.withDiffer 0 :=
  if_pos agrees

theorem State.sampleLstop_counts (differs : low ≠ s.stop.lstopStop)
    (early : s.stop.lstopDiffer + 1 < s.stop.lstopFilter) :
    s.sampleLstop low = s.withDiffer (s.stop.lstopDiffer + 1) :=
  (if_neg differs).trans (if_neg (Nat.not_le.2 early))

theorem State.sampleLstop_changes (differs : low ≠ s.stop.lstopStop)
    (reached : s.stop.lstopFilter ≤ s.stop.lstopDiffer + 1) :
    s.sampleLstop low =
      ({ s with stop := { s.stop with lstopStop := low, lstopDiffer := 0 } } : State).followCause
        .localStop low :=
  (if_neg differs).trans (if_pos reached)

/-- A run of samples is its parts in turn. -/
theorem State.lstopRun_add (m n : Nat) (s : State) :
    State.lstopRun low (m + n) s = State.lstopRun low n (State.lstopRun low m s) := by
  induction m generalizing s with
  | zero => rw [Nat.zero_add, State.lstopRun]
  | succ m ih => rw [Nat.succ_add, State.lstopRun, ih, State.lstopRun]

theorem State.lstopRun_agrees (n : Nat) (agrees : low = s.stop.lstopStop) :
    State.lstopRun low (n + 1) s = s.withDiffer 0 := by
  induction n generalizing s with
  | zero => rw [State.lstopRun, State.lstopRun, State.sampleLstop_agrees agrees]
  | succ n ih =>
    rw [State.lstopRun, State.sampleLstop_agrees agrees, ih (s := s.withDiffer 0) agrees]
    rfl

theorem State.lstopRun_counts (n : Nat) (differs : low ≠ s.stop.lstopStop)
    (early : s.stop.lstopDiffer + n < s.stop.lstopFilter) :
    State.lstopRun low n s = s.withDiffer (s.stop.lstopDiffer + n) := by
  induction n generalizing s with
  | zero => rfl
  | succ n ih =>
    have sooner : s.stop.lstopDiffer + 1 + n < s.stop.lstopFilter := by omega
    rw [State.lstopRun, State.sampleLstop_counts differs (by omega),
      ih (s := s.withDiffer (s.stop.lstopDiffer + 1)) differs sooner, Nat.add_comm n 1, ← Nat.add_assoc]
    rfl

/-- The sample that brings the count to the filter time changes the level. -/
theorem State.lstopRun_changes (n : Nat) (differs : low ≠ s.stop.lstopStop)
    (reached : s.stop.lstopDiffer + (n + 1) = s.stop.lstopFilter) :
    State.lstopRun low (n + 1) s =
      ({ s with stop := { s.stop with lstopStop := low, lstopDiffer := 0 } } : State).followCause
        .localStop low := by
  have late : s.stop.lstopFilter ≤ s.stop.lstopDiffer + n + 1 := by omega
  rw [State.lstopRun_add, State.lstopRun_counts n differs (by omega), State.lstopRun, State.lstopRun,
    State.sampleLstop_changes (s := s.withDiffer (s.stop.lstopDiffer + n)) differs late]
  rfl

theorem exec_lstopFilterChange (running : s.inRestart = false) (n : Nat) :
    exec (.lstopFilterChange low n) s = .next (State.lstopRun low n s) := by
  change execLstopFilterChange low n s = _
  rw [execLstopFilterChange, running, if_neg (by decide)]

/-! ### The sensor reference (R137) -/

theorem Monitor.invalidate_halts (m : Monitor) (reference : Bool) (scan : Option Nat) :
    Monitor.halts { m.invalidate with reference := reference, scan := scan } = true := by
  rw [Monitor.halts, Monitor.invalidate, Bool.or_eq_true]
  exact .inr rfl

theorem State.evaluateIfJoined_halts (joined : s.site.state.onSite = true) (halts : s.monitor.halts = true) :
    s.evaluateIfJoined = (s.withDwell none).setStability .halted :=
  (if_pos joined).trans (if_pos halts)

end

/-- Settles O21: runs of samples by their count, the other inputs by their one condition. -/
theorem inputsMoveTheirCauses : Obligations.InputsMoveTheirCauses := by
  refine ⟨fun s low n running => ?_, fun s low m n running => ?_,
    fun s below => ⟨fun restart => ?_, fun running => ?_⟩,
    fun s running => ⟨fun reference => ?_, fun lost => ?_⟩⟩
  · rw [exec_lstopFilterChange running]
    refine ⟨fun agrees some => ?_, fun differs early => ?_, fun differs some due => ?_⟩
    · obtain ⟨n, rfl⟩ := Nat.exists_eq_succ_of_ne_zero (Nat.one_le_iff_ne_zero.1 some)
      rw [State.lstopRun_agrees n agrees]
      rfl
    · rw [State.lstopRun_counts n differs early]
      rfl
    · obtain ⟨n, rfl⟩ := Nat.exists_eq_succ_of_ne_zero (Nat.one_le_iff_ne_zero.1 some)
      rcases due with reached | ⟨one, late⟩
      · rw [State.lstopRun_changes n differs reached]
        rfl
      · obtain rfl : n = 0 := Nat.succ.inj one
        rw [State.lstopRun, State.lstopRun, State.sampleLstop_changes differs (Nat.le_succ_of_le late)]
        rfl
  · have kept : (State.lstopRun low m s).inRestart = false := by
      rw [State.inRestart, (Turns.keeps_hold (State.lstopRun_turns low m s))]
      exact running
    exact ⟨_, exec_lstopFilterChange running m, by
      rw [exec_lstopFilterChange running, exec_lstopFilterChange kept, State.lstopRun_add]⟩
  · change execSupplyWarnChange below s = _
    rw [execSupplyWarnChange, restart]; rfl
  · change execSupplyWarnChange below s = _
    rw [execSupplyWarnChange, running]; rfl
  · have ready : (!s.inRestart && s.monitor.reference) = true := by rw [running, reference]; rfl
    have lost : exec .srefLost s = .next s.loseReference := by
      change execSrefLost s = _
      rw [execSrefLost, if_pos ready]
    refine ⟨fun off => lost.trans ?_, fun on => lost.trans ?_⟩
    · rw [State.loseReference, State.evaluateIfJoined, if_neg (Bool.eq_false_iff.1 off)]
      rfl
    · exact congrArg _ (State.evaluateIfJoined_halts
        (s := { s with monitor := { s.monitor.invalidate with reference := false, scan := none } }) on
        (s.monitor.invalidate_halts false none))
  · have ready : (!s.inRestart && !s.monitor.reference) = true := by rw [running, lost]; rfl
    have regained : exec .srefRegained s = .next s.regainReference := by
      change execSrefRegained s = _
      rw [execSrefRegained, if_pos ready]
    exact ⟨fun fresh => by rw [regained, State.regainReference, if_pos fresh],
      fun set => by rw [regained, State.regainReference, if_neg set]⟩

end Sys2Proof.Machine

namespace Sys2Proof.Machine

/-! ### Octets compared (R93, R106) -/

theorem octetLevels_beq (o x : Octet) : (octetLevels o true == octetLevels x true) = (x == o) := by
  rw [Bool.eq_iff_iff, beq_iff_eq, beq_iff_eq]
  refine ⟨fun same => ?_, fun same => by rw [same]⟩
  simp only [octetLevels, List.map_cons, List.map_nil, List.cons_append, List.nil_append,
    List.cons.injEq, and_true, true_and] at same
  obtain ⟨b0, b1, b2, b3, b4, b5, b6, b7⟩ := same
  refine BitVec.eq_of_getLsbD_eq fun i bound => ?_
  interval_cases i
  exacts [b0.symm, b1.symm, b2.symm, b3.symm, b4.symm, b5.symm, b6.symm, b7.symm]

theorem octetLevels_broken (o x : Octet) : (octetLevels o false == octetLevels x true) = false := by
  rw [beq_eq_false_iff_ne]
  simp [octetLevels]

section
variable {s : State} {o : Octet}

/-- An octet with a recessive stop bit is met by the octet that goes out. -/
theorem exec_octetReceived_met (active : s.linkActive = true) (o : Octet) :
    exec (.octetReceived o true) s = .next
      (((s.compareOctet fun x => x == o).withIdle (idleRun o true)).hearOctet o true) := by
  rw [exec_octetReceived_of_linkActive active]
  simp only [octetLevels_beq]

/-- A dominant stop bit agrees with no octet. -/
theorem exec_octetReceived_broken (active : s.linkActive = true) (o : Octet) :
    exec (.octetReceived o false) s = .next
      (((s.compareOctet fun _ => false).withIdle 0).hearOctet o false) := by
  change execOctetReceived o false s = _
  rw [execOctetReceived, if_pos active]
  simp only [octetLevels_broken]
  rfl

/-! ### An octet by the receiver's state (R95) -/

variable {echo : Bool} {f : OpenFrame} {hi : Octet}

theorem State.hearOctet_gapWait {stop : Bool} (phase : s.rx.phase = .gapWait) : s.hearOctet o stop = s := by
  simp only [State.hearOctet, phase]

theorem State.hearOctet_hunt {stop : Bool} (phase : s.rx.phase = .hunt) :
    s.hearOctet o stop = s.huntOctet o stop := by
  simp only [State.hearOctet, phase]

/-- A framing error drops the frame being received. -/
theorem State.hearOctet_framing (receiving : s.rx.phase.receiving = true) :
    s.hearOctet o false = s.dropFrame .gapWait := by
  unfold State.hearOctet
  split
  next idle => rw [idle] at receiving; cases receiving
  next wait => rw [wait] at receiving; cases receiving
  next hunt => rw [hunt] at receiving; cases receiving
  all_goals rfl

theorem State.hearOctet_length (phase : s.rx.phase = .length echo) :
    s.hearOctet o true = s.lengthOctet o echo := by
  simp only [State.hearOctet, phase, if_true]

theorem State.hearOctet_body (phase : s.rx.phase = .body f) : s.hearOctet o true = s.bodyOctet o f := by
  simp only [State.hearOctet, phase, if_true]

theorem State.hearOctet_check {first : Option Octet} (phase : s.rx.phase = .check f first) :
    s.hearOctet o true = s.checkOctet o f first := by
  simp only [State.hearOctet, phase, if_true]

theorem State.huntOctet_other (other : o ≠ 0x96) : s.huntOctet o true = s.withPhase .gapWait :=
  if_pos (bne_iff_ne.2 other)

theorem State.huntOctet_full (full : 2048 < s.rx.fill + 4) : s.huntOctet 0x96 true = s.dropStatus :=
  (if_neg (by decide)).trans (if_pos full)

theorem State.huntOctet_room (room : s.rx.fill + 4 ≤ 2048) :
    s.huntOctet 0x96 true = (s.withPhase (.length s.txen)).judgeLag :=
  (if_neg (by decide)).trans (if_neg (Nat.not_lt.2 room))

theorem State.lengthOctet_in (least : 3 ≤ o.toNat) (most : o.toNat ≤ 80) :
    s.lengthOctet o echo = s.withPhase (.body { length := o, octets := [], echo := echo }) :=
  if_pos (by simp [least, most])

theorem State.lengthOctet_out (out : o.toNat < 3 ∨ 80 < o.toNat) :
    s.lengthOctet o echo = s.dropFrame .gapWait :=
  if_neg (by simp; omega)

theorem State.bodyOctet_full (full : 2048 < s.rx.fill + 1) : s.bodyOctet o f = s.dropFrame .gapWait :=
  if_pos full

/-- An octet of a body before its last. -/
theorem State.bodyOctet_more (room : s.rx.fill + 1 ≤ 2048) (more : f.octets.length + 1 < f.length.toNat) :
    s.bodyOctet o f = (s.withPhase (.body { f with octets := f.octets ++ [o] })).judgeLag := by
  have fits : ¬ Config.storeCapacity < s.rx.fill + 1 := Nat.not_lt.2 room
  have short : ¬ f.length.toNat ≤ (f.octets ++ [o]).length := by
    rw [List.length_append, List.length_singleton]; omega
  rw [State.bodyOctet, if_neg fits, OpenFrame.grow, if_neg short]

/-- The last octet of a body leads to CHECK. -/
theorem State.bodyOctet_last (room : s.rx.fill + 1 ≤ 2048) (last : f.length.toNat ≤ f.octets.length + 1) :
    s.bodyOctet o f = (s.withPhase (.check { f with octets := f.octets ++ [o] } none)).judgeLag := by
  have fits : ¬ Config.storeCapacity < s.rx.fill + 1 := Nat.not_lt.2 room
  have whole : f.length.toNat ≤ (f.octets ++ [o]).length := by
    rw [List.length_append, List.length_singleton]; exact last
  rw [State.bodyOctet, if_neg fits, OpenFrame.grow, if_pos whole]

theorem State.checkOctet_matches (sound : crc (f.length :: f.octets) = hi ++ o) :
    s.checkOctet o f (some hi) = s.arrive f :=
  if_pos sound

theorem State.checkOctet_differs (unsound : crc (f.length :: f.octets) ≠ hi ++ o) :
    s.checkOctet o f (some hi) = s.dropFrame .gapWait :=
  if_neg unsound

theorem State.completes_of (active : s.linkActive = true) (phase : s.rx.phase = .check f (some hi))
    (sound : crc (f.length :: f.octets) = hi ++ o) : s.completes o = some f := by
  rw [State.completes, if_pos active]
  simp only [phase]
  exact if_pos sound

theorem State.compareOctet_linkActive (agrees : Octet → Bool) :
    (s.compareOctet agrees).linkActive = s.linkActive := by
  have supply : (s.compareOctet agrees).supply = s.supply := s.compareOctet_frame agrees .supply (by decide)
  have site : (s.compareOctet agrees).site = s.site := s.compareOctet_frame agrees .site (by decide)
  rw [State.linkActive, State.linkActive, State.inRestart, State.inRestart, supply, site]

/-- A comparison changes the receiver's phase at most by its echo mark. -/
theorem State.compareOctet_gap (agrees : Octet → Bool) (phase : s.rx.phase = .gapWait ∨ s.rx.phase = .hunt) :
    (s.compareOctet agrees).rx = s.rx := by
  rcases s.compareOctet_rx agrees with same | broken
  · exact same
  · have kept : s.rx.phase.loseEcho = s.rx.phase := by rcases phase with h | h <;> rw [h] <;> rfl
    rw [broken, kept]

/-- A dominant stop bit leads a receiver that waits or hunts to GAP_WAIT. -/
theorem State.hearOctet_dominant (phase : s.rx.phase = .gapWait ∨ s.rx.phase = .hunt) :
    s.hearOctet o false = s.withPhase .gapWait := by
  rcases phase with wait | hunt
  · rw [State.hearOctet_gapWait wait, State.withPhase, ← wait]
    rfl
  · rw [State.hearOctet_hunt hunt]
    exact if_pos rfl

end

/-- A completing octet arrives after its comparison. -/
theorem exec_frameArrival_of {s : State} {o : Octet} {f : OpenFrame}
    (completes : (s.compareOctet fun x => x == o).completes o = some f) :
    exec (.frameArrival o) s = .next
      (((s.compareOctet fun x => x == o).withIdle (idleRun o true)).arrive f) := by
  change execFrameArrival o s = _
  simp only [execFrameArrival, octetLevels_beq, completes]

/-- Settles O22: the octet heard by the phase that the comparison leaves. -/
theorem octetsBuildAFrame : Obligations.OctetsBuildAFrame := by
  intro s o active met missed heard
  have received : exec (.octetReceived o true) s = .next (heard.hearOctet o true) :=
    exec_octetReceived_met active o
  have arrival (f : OpenFrame) (completes : met.completes o = some f) :
      exec (.frameArrival o) s = .next (heard.arrive f) := exec_frameArrival_of completes
  have broken : exec (.octetReceived o false) s = .next ((missed.withIdle 0).hearOctet o false) :=
    exec_octetReceived_broken active o
  have linked : met.linkActive = true := (State.compareOctet_linkActive _).trans active
  have quiet (idle : s.rx.phase = .gapWait ∨ s.rx.phase = .hunt) : missed.rx = s.rx :=
    State.compareOctet_gap _ idle
  have kept : heard.rx.phase = met.rx.phase := rfl
  clear_value met missed
  refine ⟨fun wait => ?_, fun idle => ?_, fun hunt => ⟨fun other => ?_, fun delimiter room => ?_⟩,
    fun echo phase least most => ?_, fun f phase room => ⟨fun more => ?_, fun last => ?_⟩,
    fun f phase => ?_, fun f hi phase sound => ⟨?_, ?_⟩⟩
  · rw [received, State.hearOctet_gapWait (kept.trans wait)]
  · have idle' : (missed.withIdle 0).rx.phase = .gapWait ∨ (missed.withIdle 0).rx.phase = .hunt := by
      change missed.rx.phase = _ ∨ missed.rx.phase = _
      rwa [quiet idle]
    rw [broken, State.hearOctet_dominant idle']
    rfl
  · rw [received, State.hearOctet_hunt (kept.trans hunt), State.huntOctet_other other]
    rfl
  · subst delimiter
    rw [received, State.hearOctet_hunt (kept.trans hunt), State.huntOctet_room (s := heard) room]
    rfl
  · rw [received, State.hearOctet_length (kept.trans phase), State.lengthOctet_in least most]
    rfl
  · rw [received, State.hearOctet_body (kept.trans phase), State.bodyOctet_more (s := heard) room more]
    rfl
  · rw [received, State.hearOctet_body (kept.trans phase), State.bodyOctet_last (s := heard) room last]
    rfl
  · rw [received, State.hearOctet_check (kept.trans phase)]
    rfl
  · rw [received, State.hearOctet_check (kept.trans phase), State.checkOctet_matches sound]
    rfl
  · rw [arrival f (State.completes_of linked phase sound)]
    rfl

end Sys2Proof.Machine

namespace Sys2Proof.Machine

/-! ### Drops (R95, R98, R101) -/

section
variable {s : State} {o : Octet}

theorem RxPhase.receiving_loseEcho (p : RxPhase) : p.loseEcho.receiving = p.receiving := by
  cases p <;> rfl

theorem State.compareOctet_receiving (agrees : Octet → Bool) (receiving : s.rx.phase.receiving = true) :
    (s.compareOctet agrees).rx.phase.receiving = true := by
  rcases s.compareOctet_rx agrees with same | broken
  · rw [same]; exact receiving
  · rw [broken]
    exact (RxPhase.receiving_loseEcho _).trans receiving

theorem State.compareOctet_fill (agrees : Octet → Bool) : (s.compareOctet agrees).rx.fill = s.rx.fill := by
  rcases s.compareOctet_rx agrees with same | broken
  · rw [same]
  · rw [broken, Receiver.fill, Receiver.fill]
    cases s.rx.phase <;> rfl

theorem State.compareOctet_length {echo : Bool} (agrees : Octet → Bool) (phase : s.rx.phase = .length echo) :
    ∃ kept, (s.compareOctet agrees).rx.phase = .length kept := by
  rcases s.compareOctet_rx agrees with same | broken
  · exact ⟨echo, by rw [same, phase]⟩
  · exact ⟨false, by rw [broken, phase]; rfl⟩

theorem State.compareOctet_body {f : OpenFrame} (agrees : Octet → Bool) (phase : s.rx.phase = .body f) :
    ∃ kept, (s.compareOctet agrees).rx.phase = .body { f with echo := kept } := by
  rcases s.compareOctet_rx agrees with same | broken
  · exact ⟨f.echo, by rw [same, phase]⟩
  · exact ⟨false, by rw [broken, phase]; rfl⟩

/-- An octet that agrees leaves the receiver as it was. -/
theorem State.compareOctet_agrees_rx : (s.compareOctet fun _ => true).rx = s.rx := by
  unfold State.compareOctet
  split
  next => rfl
  next f _ =>
    split
    next => rfl
    next => rfl

theorem State.lineIdle_receiving (receiving : s.rx.phase.receiving = true) :
    s.lineIdle = (s.withIdle 24).dropFrame .hunt := by
  unfold State.lineIdle
  split
  next idle => rw [idle] at receiving; cases receiving
  next hunt => rw [hunt] at receiving; cases receiving
  next wait => rw [wait] at receiving; cases receiving
  all_goals rfl

theorem State.lineIdle_waiting (phase : s.rx.phase = .gapWait ∨ s.rx.phase = .hunt) :
    s.lineIdle = (s.withIdle 24).withPhase .hunt := by
  rcases phase with wait | hunt
  · simp only [State.lineIdle, wait]; rfl
  · simp only [State.lineIdle, hunt]
    rw [State.withPhase, ← hunt]
    rfl

theorem exec_lineIdle_active (active : s.linkActive = true) (busy : s.rx.idleCount < 24) :
    exec .lineIdle s = .next (s.compareOctet fun _ => false).lineIdle := by
  change execLineIdle s = _
  rw [execLineIdle, if_pos (by rw [active]; exact decide_eq_true busy)]

/-- A drop for any cause but overflow shows a mismatch (log 22). -/
theorem exec_frameDrop_missed {cause : DropCause} (drops : s.dropsFor cause = true)
    (other : (cause == .overflow) = false) :
    exec (.frameDrop cause) s = .next ((s.compareOctet fun _ => false).dropFor cause) := by
  change execFrameDrop cause s = _
  rw [execFrameDrop, if_pos drops, other]

theorem exec_frameDrop_overflow (drops : s.dropsFor .overflow = true) :
    exec (.frameDrop .overflow) s = .next ((s.compareOctet fun _ => true).dropFor .overflow) := by
  change execFrameDrop .overflow s = _
  rw [execFrameDrop, if_pos drops]
  rfl

theorem State.dropsFor_framing (active : s.linkActive = true) (receiving : s.rx.phase.receiving = true) :
    s.dropsFor .framing = true := by
  rw [State.dropsFor, active]; exact receiving

theorem State.dropsFor_truncated (active : s.linkActive = true) (receiving : s.rx.phase.receiving = true) :
    s.dropsFor .truncated = true := by
  rw [State.dropsFor, active]; exact receiving

theorem State.dropsFor_badLength {echo : Bool} (active : s.linkActive = true)
    (phase : s.rx.phase = .length echo) : s.dropsFor .badLength = true := by
  simp only [State.dropsFor, active, phase, Bool.true_and]

theorem State.dropsFor_crcMismatch {f : OpenFrame} {hi : Octet} (active : s.linkActive = true)
    (phase : s.rx.phase = .check f (some hi)) : s.dropsFor .crcMismatch = true := by
  simp only [State.dropsFor, active, phase, Bool.true_and]

theorem State.dropsFor_overflow_body {f : OpenFrame} (active : s.linkActive = true)
    (phase : s.rx.phase = .body f) (full : 2048 < s.rx.fill + 1) : s.dropsFor .overflow = true := by
  simp only [State.dropsFor, active, phase, Bool.true_and]
  exact decide_eq_true full

theorem State.dropsFor_overflow_hunt (active : s.linkActive = true) (phase : s.rx.phase = .hunt)
    (full : 2048 < s.rx.fill + 4) : s.dropsFor .overflow = true := by
  simp only [State.dropsFor, active, phase, Bool.true_and]
  exact decide_eq_true full

/-- What fits of the status record written, and the fill judged with the store full (R95, R101). -/
def State.statusWritten (s : State) (fill : Nat) : State := if fill < 2048 then s.judgeLagAt 2048 else s

theorem State.judgeLagAt_idleCount (fill : Nat) : (s.judgeLagAt fill).rx.idleCount = s.rx.idleCount := by
  unfold State.judgeLagAt
  dsimp only
  split
  next => rfl
  next =>
    rw [State.evalHead_cascade _ .rx (by decide)]
    rfl

/-- An overflow at the status record is a drop that keeps the idle count. -/
theorem State.dropStatus_eq {idle : Nat} (count : s.rx.idleCount = idle) :
    s.dropStatus = ((s.statusWritten s.rx.fill).withIdle idle).dropFrame .gapWait := by
  have kept : (s.statusWritten s.rx.fill).rx.idleCount = idle := by
    rw [State.statusWritten]
    split
    next => rw [State.judgeLagAt_idleCount, count]
    next => exact count
  rw [State.withIdle, ← kept]
  rfl

/-! ### View doubt and view lag (R101, R123, R124) -/

theorem State.announcedIndex_some_iff :
    (∃ p ∈ s.admission.queue, p.state = .announcing ∨ p.state = .tentative) ↔
      ∃ i, s.announcedIndex = some i := by
  rw [← Option.isSome_iff_exists, State.announcedIndex, List.findIdx?_isSome, List.any_eq_true]
  simp only [PlacementState.announced_iff]

theorem State.gateLost_announced
    (announced : ∃ p ∈ s.admission.queue, p.state = .announcing ∨ p.state = .tentative) :
    s.gateLost = s.yieldAnnounced.reevaluate := by
  obtain ⟨i, index⟩ := State.announcedIndex_some_iff.1 announced
  rw [State.gateLost, index]

theorem State.gateLost_none
    (calm : ¬ ∃ p ∈ s.admission.queue, p.state = .announcing ∨ p.state = .tentative) :
    s.gateLost = s.evalHead := by
  have none : s.announcedIndex = none := by
    rw [Option.eq_none_iff_forall_ne_some]
    exact fun i index => calm (State.announcedIndex_some_iff.2 ⟨i, index⟩)
  rw [State.gateLost, none]

theorem State.judgeLagAt_keeps {fill : Nat}
    (same : judgedLag s.rx.lagOn s.rx.lagOff fill s.rx.lag = s.rx.lag) : s.judgeLagAt fill = s :=
  if_pos same

theorem State.judgeLagAt_turns_to {fill : Nat} {lag : Bool}
    (judged : judgedLag s.rx.lagOn s.rx.lagOff fill s.rx.lag = lag) (other : lag ≠ s.rx.lag) :
    s.judgeLagAt fill = ({ s with rx := { s.rx with lag := lag } } : State).oweSite.evalHead := by
  subst judged
  exact if_neg other

end

/-- Settles O23: every cause of a drop frees the frame by `State.dropFrame`. -/
theorem dropsStartViewDoubt : Obligations.DropsStartViewDoubt := by
  refine ⟨?drops, fun s => ?doubt, fun s fill => ?lag, fun s => ⟨rfl, ?_, ?_, ?_⟩⟩
  case drops =>
    intro s o f active dropped met missed sent
    have received : exec (.octetReceived o true) s = .next ((met.withIdle (idleRun o true)).hearOctet o true) :=
      exec_octetReceived_met active o
    refine ⟨fun phase => ?_, fun phase => ?_, fun phase full => ⟨?_, ?_⟩,
      fun phase full => And.intro (fun delimiter => ?_) ?_, fun hi phase => ⟨fun unsound => ?_, ?_⟩,
      fun busy phase => ?_⟩
    · have receiving : s.rx.phase.receiving = true := by
        rcases phase with h | ⟨echo, h⟩ | ⟨first, h⟩ <;> rw [h] <;> rfl
      have kept : missed.rx.phase.receiving = true := State.compareOctet_receiving _ receiving
      refine ⟨?_, exec_frameDrop_missed (State.dropsFor_framing active receiving) rfl, fun busy => ?_,
        exec_frameDrop_missed (State.dropsFor_truncated active receiving) rfl⟩
      · exact (exec_octetReceived_broken active o).trans
          (congrArg _ (State.hearOctet_framing (s := missed.withIdle 0) kept))
      · exact (exec_lineIdle_active active busy).trans (congrArg _ (State.lineIdle_receiving kept))
    · obtain ⟨echo, phase⟩ := phase
      obtain ⟨kept, phase'⟩ := State.compareOctet_length (fun x => x == o) phase
      refine ⟨fun out => ?_, exec_frameDrop_missed (State.dropsFor_badLength active phase) rfl⟩
      rw [received, State.hearOctet_length (s := met.withIdle (idleRun o true)) phase', State.lengthOctet_out out]
      rfl
    · obtain ⟨kept, phase'⟩ := State.compareOctet_body (fun x => x == o) phase
      have full' : 2048 < (met.withIdle (idleRun o true)).rx.fill + 1 := by
        change 2048 < met.rx.fill + 1
        rwa [State.compareOctet_fill]
      rw [received, State.hearOctet_body (s := met.withIdle (idleRun o true)) phase', State.bodyOctet_full full']
      rfl
    · have body : ¬ sent.rx.phase = .hunt := by
        rw [State.compareOctet_agrees_rx, phase]; exact nofun
      exact (exec_frameDrop_overflow (State.dropsFor_overflow_body active phase full)).trans
        (congrArg _ (if_neg body))
    · subst delimiter
      have same : met.rx = s.rx := State.compareOctet_gap _ (.inr phase)
      have phase' : (met.withIdle (idleRun 0x96 true)).rx.phase = .hunt := by
        change met.rx.phase = .hunt
        rw [same, phase]
      have fill : (met.withIdle (idleRun 0x96 true)).rx.fill = s.rx.fill := State.compareOctet_fill _
      rw [received, State.hearOctet_hunt phase', State.huntOctet_full (by rw [fill]; exact full),
        State.dropStatus_eq rfl, fill]
      rfl
    · have same : sent.rx = s.rx := State.compareOctet_agrees_rx
      have hunt : sent.rx.phase = .hunt := by rw [same, phase]
      have fill : (sent.withIdle 0).rx.fill = s.rx.fill := State.compareOctet_fill _
      have status : sent.dropFor .overflow = (sent.withIdle 0).dropStatus := if_pos hunt
      rw [exec_frameDrop_overflow (State.dropsFor_overflow_hunt active phase full), status,
        State.dropStatus_eq rfl, fill]
      rfl
    · obtain ⟨-, kept, phase'⟩ := State.compareOctet_check phase (fun x => x == o) (idleRun o true)
      rw [received, State.hearOctet_check phase',
        State.checkOctet_differs (f := { f with echo := kept }) unsound]
      rfl
    · exact exec_frameDrop_missed (State.dropsFor_crcMismatch active phase) rfl
    · have phase' : missed.rx.phase = .gapWait ∨ missed.rx.phase = .hunt := by
        rwa [State.compareOctet_gap _ phase]
      exact (exec_lineIdle_active active busy).trans (congrArg _ (State.lineIdle_waiting phase'))
  case doubt =>
    refine ⟨fun on => if_pos (Option.isSome_iff_ne_none.2 on), fun off => ?_⟩
    have started : s.startDoubt =
        (({ s with notice := { s.notice with doubtDue := some (s.after s.cfg.hold) } } : State).oweSite).gateLost :=
      if_neg (by rw [off]; decide)
    exact ⟨fun announced => started.trans (State.gateLost_announced announced),
      fun calm => started.trans (State.gateLost_none calm)⟩
  case lag =>
    refine ⟨fun high => ?_, fun low under => ?_, fun low above => State.judgeLagAt_keeps ?_⟩
    · have judged (lag : Bool) : judgedLag s.rx.lagOn s.rx.lagOff fill lag = true := if_pos high
      exact ⟨fun off => State.judgeLagAt_turns_to (judged _) (by rw [off]; decide),
        fun on => State.judgeLagAt_keeps ((judged _).trans on.symm)⟩
    · have judged (lag : Bool) : judgedLag s.rx.lagOn s.rx.lagOff fill lag = false :=
        (if_neg (Nat.not_lt.2 low)).trans (if_pos under)
      exact ⟨fun on => State.judgeLagAt_turns_to (judged _) (by rw [on]; decide),
        fun off => State.judgeLagAt_keeps ((judged _).trans off.symm)⟩
    · exact (if_neg (Nat.not_lt.2 low)).trans (if_neg (Nat.not_lt.2 above))
  · rintro (phase | phase | phase) <;> rw [Receiver.fill, phase] <;> rfl
  · rintro ⟨echo, phase⟩
    rw [Receiver.fill, phase]
    rfl
  · rintro f (phase | ⟨first, phase⟩) <;> rw [Receiver.fill, phase] <;> rfl

end Sys2Proof.Machine

namespace Sys2Proof.Machine

/-! ### The arbiter's record (R105) -/

section
variable {s : State} {dead rest : List UrgentRecord} {n : Octet}

theorem State.urgentTake_dead (gone : ∀ r ∈ dead, ∃ n, r = .claim n ∧ s.ownClaim n = none) :
    s.urgentTake (dead ++ rest) = s.urgentTake rest := by
  induction dead with
  | nil => rfl
  | cons r dead ih =>
    obtain ⟨n, rfl, absent⟩ := gone _ (.head _)
    rw [List.cons_append, State.urgentTake, absent, if_neg (by decide)]
    exact ih fun x held => gone x (.tail _ held)

theorem State.urgentTake_none (gone : ∀ r ∈ dead, ∃ n, r = .claim n ∧ s.ownClaim n = none) :
    s.urgentTake dead = (none, []) := by
  have taken := s.urgentTake_dead (rest := []) gone
  rw [List.append_nil] at taken
  rw [taken, State.urgentTake]

theorem State.urgentTake_claim {c : OwnClaim}
    (gone : ∀ r ∈ dead, ∃ n, r = .claim n ∧ s.ownClaim n = none) (found : s.ownClaim n = some c) :
    s.urgentTake (dead ++ .claim n :: rest) = (some (.claim n), rest) := by
  rw [State.urgentTake_dead gone, State.urgentTake, found]
  rfl

theorem State.urgentTake_release (gone : ∀ r ∈ dead, ∃ n, r = .claim n ∧ s.ownClaim n = none) :
    s.urgentTake (dead ++ .release n :: rest) = (some (.release n), rest) := by
  rw [State.urgentTake_dead gone, State.urgentTake]

theorem State.arbitrate_urgent {r : UrgentRecord} (taken : s.urgentTake s.tx.urgent = (some r, rest)) :
    s.arbitrate = ((s.withUrgent rest).buildUrgent r).evalHead := by
  simp only [State.arbitrate, taken]

theorem State.arbitrate_bulk (taken : s.urgentTake s.tx.urgent = (none, rest)) :
    s.arbitrate = (s.withUrgent rest).buildBulk.evalHead := by
  simp only [State.arbitrate, taken]

theorem State.buildClaim_some {c : OwnClaim} (found : s.ownClaim n = some c) :
    s.buildClaim n = (s.mapClaim n fun c => { c with announce := .nothing }).withCurrent
      (some (s.builtFrame (.claim n false) (s.claimNotice c))) := by
  simp only [State.buildClaim, found]

theorem State.buildBulk_nil (empty : s.tx.bulk = []) : s.buildBulk = s := by
  rw [State.buildBulk, empty]

theorem State.buildBulk_announce {w : Nat} {bulk : List BulkRecord} (queue : s.tx.bulk = .ownAnnounce w :: bulk) :
    s.buildBulk = s.buildAnnounce w bulk := by
  rw [State.buildBulk, queue]

theorem State.buildBulk_answer {w : Nat} {cursor : Option Slot} {bulk : List BulkRecord}
    (queue : s.tx.bulk = .answer w cursor :: bulk) : s.buildBulk = s.buildAnswer w cursor := by
  rw [State.buildBulk, queue]

theorem State.buildBulk_survey {p : PendingSurvey} {bulk : List BulkRecord}
    (queue : s.tx.bulk = .survey :: bulk) (pending : s.notice.survey = some p) :
    s.buildBulk =
      ({ s.withBulk bulk with notice := { s.notice with survey := none } } : State).withCurrent
        (some (s.builtFrame (.survey p.select) (.survey p.select.code))) := by
  simp only [State.buildBulk, queue, State.buildSurvey, pending]
  rfl

theorem exec_arbiterTake (active : s.linkActive = true) (idle : s.tx.current = none)
    (some : s.tx.urgent ≠ [] ∨ s.tx.bulk ≠ []) : exec .arbiterTake s = .next s.arbitrate := by
  have queued : (s.tx.urgent.isEmpty && s.tx.bulk.isEmpty) = false := by
    rw [Bool.and_eq_false_iff, List.isEmpty_eq_false_iff, List.isEmpty_eq_false_iff]
    exact some
  change execArbiterTake s = _
  rw [execArbiterTake, State.arbiterReady, active, idle, queued, if_pos (by decide)]

theorem exec_arbiterTake_nothing (urgent : s.tx.urgent = []) (bulk : s.tx.bulk = []) :
    exec .arbiterTake s = .next s := by
  change execArbiterTake s = _
  rw [execArbiterTake, State.arbiterReady, urgent, bulk, if_neg (by simp)]

/-- With no urgent record that stands, the head of the bulk queue is built. -/
theorem exec_arbiterTake_bulk (active : s.linkActive = true) (idle : s.tx.current = none)
    (some : s.tx.urgent ≠ [] ∨ s.tx.bulk ≠ [])
    (gone : ∀ r ∈ s.tx.urgent, ∃ n, r = .claim n ∧ s.ownClaim n = none) :
    exec .arbiterTake s = .next (s.withUrgent []).buildBulk.evalHead := by
  rw [exec_arbiterTake active idle some, State.arbitrate_bulk (State.urgentTake_none gone)]

theorem exec_arbiterTake_urgent {r : UrgentRecord} {queue : List UrgentRecord} (active : s.linkActive = true)
    (idle : s.tx.current = none) (urgent : s.tx.urgent = dead ++ r :: queue)
    (taken : s.urgentTake (dead ++ r :: queue) = (some r, rest)) :
    exec .arbiterTake s = .next ((s.withUrgent rest).buildUrgent r).evalHead := by
  rw [exec_arbiterTake active idle (.inl (by rw [urgent]; simp)),
    State.arbitrate_urgent (by rw [urgent]; exact taken)]

end

/-- Settles O24: the record taken is the first that stands, and its frame is built by its kind. -/
theorem arbiterBuildsTheNextFrame : Obligations.ArbiterBuildsTheNextFrame := by
  refine ⟨fun s dead rest active idle gone => ⟨fun n c urgent found => ?_, fun n urgent => ?_,
      fun urgent => ⟨fun empty => ⟨fun none => ?_, fun some => ?_⟩, fun w bulk queue => ?_,
        fun w cursor bulk queue => ?_, fun p bulk queue pending => ?_⟩⟩,
    fun s w records => rfl, fun s r => ⟨fun set => ?_, fun stamp d wet defined => ?_⟩⟩
  · rw [exec_arbiterTake_urgent active idle urgent (State.urgentTake_claim gone found), State.buildUrgent,
      State.buildClaim_some (s := s.withUrgent rest) found]
    rfl
  · rw [exec_arbiterTake_urgent active idle urgent (State.urgentTake_release gone)]
    rfl
  · exact exec_arbiterTake_nothing (urgent.trans none) empty
  · subst urgent
    rw [exec_arbiterTake_bulk active idle (.inl some) gone, State.buildBulk_nil (s := s.withUrgent []) empty]
    rfl
  · subst urgent
    rw [exec_arbiterTake_bulk active idle (.inr (by rw [queue]; simp)) gone,
      State.buildBulk_announce (s := s.withUrgent []) queue]
    rfl
  · subst urgent
    rw [exec_arbiterTake_bulk active idle (.inr (by rw [queue]; simp)) gone,
      State.buildBulk_answer (s := s.withUrgent []) queue]
    rfl
  · subst urgent
    rw [exec_arbiterTake_bulk active idle (.inr (by rw [queue]; simp)) gone,
      State.buildBulk_survey (s := s.withUrgent []) queue pending]
    rfl
  · rw [State.laidEntry, State.shownMaturity_set set]
  · rw [State.laidEntry, State.shownMaturity_wet wet defined]

end Sys2Proof.Machine

namespace Sys2Proof.Machine

/-! ### The frame being sent (R106) -/

section
variable {s : State} {f : CurrentFrame}

theorem State.sentFrame_sending (active : s.linkActive = true) (current : s.tx.current = some f)
    (sending : f.phase = .sending) : s.sentFrame = some f := by
  rw [State.sentFrame, if_pos active, current]
  exact Option.filter_some_pos (beq_iff_eq.2 sending)

theorem State.sentFrame_other (current : s.tx.current = some f) (other : f.phase ≠ .sending) :
    s.sentFrame = none := by
  have unsent : (some f).filter (fun f => f.phase == .sending) = none :=
    Option.filter_some_neg (beq_eq_false_iff_ne.2 other)
  rw [State.sentFrame, current, unsent, ite_self]

theorem State.compareOctet_idle (agrees : Octet → Bool) (idle : s.sentFrame = none) :
    s.compareOctet agrees = s := by
  rw [State.compareOctet, idle]

theorem State.compareOctet_whole (agrees : Octet → Bool) (sent : s.sentFrame = some f)
    (whole : f.octets.length ≤ f.sent) : s.compareOctet agrees = s := by
  simp only [State.compareOctet, sent, List.getElem?_eq_none whole]

theorem State.compareOctet_some {o : Octet} (agrees : Octet → Bool) (sent : s.sentFrame = some f)
    (going : f.octets[f.sent]? = some o) :
    s.compareOctet agrees =
      if agrees o then s.withCurrent (some { f with sent := f.sent + 1 }) else s.collide f := by
  simp only [State.compareOctet, sent, going]

theorem exec_collision_idle (idle : s.sentFrame = none) : exec .collision s = .next s := by
  change execCollision s = _
  rw [execCollision, idle]

theorem exec_collision_some (sent : s.sentFrame = some f) :
    exec .collision s = .next (if f.sent < f.octets.length then s.collide f else s) := by
  change execCollision s = _
  simp only [execCollision, sent]

/-! ### Collisions (R107, R108, R110) -/

/-- The frame that collides is current no longer, and its echo is broken. -/
def State.cutOff (s : State) : State := s.breakEcho.withCurrent none

theorem State.collide_drops (tenth : 10 ≤ f.collisions + 1) : s.collide f = s.cutOff.frameDropped f :=
  if_pos tenth

theorem State.collide_discards (early : f.collisions + 1 < 10) (final : s.noRetry f = true) :
    s.collide f = s.cutOff.frameDiscarded f :=
  (if_neg (Nat.not_le.2 early)).trans (if_pos final)

theorem State.collide_backs_off (early : f.collisions + 1 < 10) (retry : s.noRetry f = false) :
    s.collide f =
      ({ s.breakEcho with freeCount := s.freeCount + 1 } : State).withCurrent
        (some
          { f with
            sent := 0
            collisions := f.collisions + 1
            phase := .backoff (backoffSlots (f.collisions + 1) (Config.backoffDraw s.freeCount)) }) :=
  (if_neg (Nat.not_le.2 early)).trans (if_neg (Bool.eq_false_iff.1 retry))

/-- Which frames are sent once only (R110, R114, R181). -/
theorem State.noRetry_iff : s.noRetry f = true ↔
    f.lastAttempt = true ∨ ∃ n gone, f.source = .claim n gone
      ∧ (gone = true ∨ ∀ c, s.ownClaim n = some c → c.abandoned = true) := by
  rw [State.noRetry, Bool.or_eq_true]
  refine or_congr_right ?_
  cases source : f.source with
  | claim n gone =>
    have kept : ((s.ownClaim n).map OwnClaim.abandoned).getD true = true
        ↔ ∀ c, s.ownClaim n = some c → c.abandoned = true := by
      cases found : s.ownClaim n <;> simp
    change (gone || _) = true ↔ _
    rw [Bool.or_eq_true, kept]
    refine ⟨fun once => ⟨n, gone, rfl, once⟩, ?_⟩
    rintro ⟨_, _, same, once⟩
    cases same
    exact once
  | release n => simp
  | ownAnnounce w own => simp
  | answer w own last => simp
  | survey select => simp

theorem State.claimDropped_gone {n : Octet} {gone : Bool} (absent : gone = true ∨ s.ownClaim n = none) :
    s.claimDropped n gone = s := by
  rcases absent with rfl | none
  · exact if_pos rfl
  · rw [State.claimDropped, none]
    exact ite_self _

theorem State.claimDropped_some {n : Octet} {c : OwnClaim} (found : s.ownClaim n = some c) :
    s.claimDropped n false =
      if c.abandoned then (s.dismissClaim c).reevaluate
      else if c.lastSend.isNone then
        ((s.deleteClaim n).mapTag c.tag .announcing fun p => p.linkFail (s.after s.cfg.refresh)).reevaluate
      else s.requestAnnounce n := by
  rw [State.claimDropped, found]
  exact if_neg (by decide)

/-- A frame that is discarded has an outcome only for a claim that is still there. -/
theorem State.frameDiscarded_none (absent : ∀ n, f.source = .claim n false → s.ownClaim n = none) :
    s.frameDiscarded f = s := by
  rw [State.frameDiscarded]
  cases source : f.source with
  | claim n gone =>
    cases gone with
    | true => rfl
    | false => simp only [State.claimFrameLost, absent n source, ite_self]
  | release n => rfl
  | ownAnnounce w own => rfl
  | answer w own last => rfl
  | survey select => rfl

theorem State.frameDiscarded_some {n : Octet} {c : OwnClaim} (source : f.source = .claim n false)
    (found : s.ownClaim n = some c) : s.frameDiscarded f = (s.dismissClaim c).reevaluate := by
  simp only [State.frameDiscarded, source, State.claimFrameLost, found, Bool.false_eq_true, if_false]

/-- The tenth collision of a frame keeps its send-fail kind and owes a site report. -/
def State.sendFailed (s : State) (kind : SendFail) : State :=
  ({ s with tx := { s.tx with lastFail := some kind } } : State).oweSite

theorem State.frameDropped_claim {n : Octet} {gone : Bool} (source : f.source = .claim n gone) :
    s.frameDropped f = (s.sendFailed .claim).claimDropped n gone := by
  simp only [State.frameDropped, source]; rfl

theorem State.frameDropped_release {n : Octet} (source : f.source = .release n) :
    s.frameDropped f = s.sendFailed .release := by
  simp only [State.frameDropped, source]; rfl

theorem State.frameDropped_announce {w : Nat} {own : List Slot} (source : f.source = .ownAnnounce w own) :
    s.frameDropped f = s.sendFailed .laid := by
  simp only [State.frameDropped, source]; rfl

theorem State.frameDropped_survey {select : WallSelect} (source : f.source = .survey select) :
    s.frameDropped f = s.sendFailed .survey := by
  simp only [State.frameDropped, source]; rfl

theorem State.frameDropped_answer {w : Nat} {own : List Slot} {last : Option Slot}
    (source : f.source = .answer w own last) :
    s.frameDropped f =
      if f.lastAttempt then s.sendFailed .answer else (s.sendFailed .answer).serveBulk.endAnswer w := by
  simp only [State.frameDropped, source]; rfl

theorem exec_attemptStart (active : s.linkActive = true) (current : s.tx.current = some f)
    (waiting : f.phase = .waiting) (idle : s.rx.idleCount = 24) :
    exec .attemptStart s = .next ((s.withIdle 0).withSendPhase .sending) := by
  have ready : s.attemptReady = true := by
    rw [State.attemptReady, active, idle, current, Option.any_some, waiting]
    rfl
  change execAttemptStart s = _
  rw [execAttemptStart, if_pos ready]

theorem exec_backoffEnd {r : Nat} (active : s.linkActive = true) (current : s.tx.current = some f)
    (backoff : f.phase = .backoff r) : exec .backoffEnd s = .next (s.withSendPhase .waiting) := by
  have ready : (s.linkActive && s.tx.current.any CurrentFrame.backsOff) = true := by
    rw [active, current, Option.any_some, CurrentFrame.backsOff, backoff]
    rfl
  change execBackoffEnd s = _
  rw [execBackoffEnd, if_pos ready]

end

/-- Settles O25: the collision of the frame being sent by its count, its retry and its source. -/
theorem attemptsSendOrCollide : Obligations.AttemptsSendOrCollide := by
  intro s f active current
  refine ⟨fun waiting idle => ?_, fun r backoff => ?_, fun unsent => ?_, fun sending more =>
    ⟨fun o agrees going => ⟨fun yes => ?_, fun no => ?_⟩, ?_⟩⟩
  · rw [exec_attemptStart active current waiting idle, State.withSendPhase,
      show (s.withIdle 0).tx.current = some f from current]
    rfl
  · rw [exec_backoffEnd active current backoff, State.withSendPhase, current]
    rfl
  · by_cases sending : f.phase = .sending
    · have sent := State.sentFrame_sending active current sending
      have whole := unsent.resolve_left (not_not.2 sending)
      exact ⟨fun agrees => State.compareOctet_whole agrees sent whole, by
        rw [exec_collision_some sent, if_neg (Nat.not_lt.2 whole)]⟩
    · have idle := State.sentFrame_other current sending
      exact ⟨fun agrees => State.compareOctet_idle agrees idle, exec_collision_idle idle⟩
  · rw [State.compareOctet_some agrees (State.sentFrame_sending active current sending) going, if_pos yes]
    rfl
  · have sent := State.sentFrame_sending active current sending
    rw [State.compareOctet_some agrees sent going, if_neg (Bool.eq_false_iff.1 no),
      exec_collision_some sent, if_pos more]
  · have collides : exec .collision s = .next (s.collide f) := by
      rw [exec_collision_some (State.sentFrame_sending active current sending), if_pos more]
    intro ended failed final
    have cut : s.cutOff = ended := rfl
    have fails (kind : SendFail) : s.cutOff.sendFailed kind = failed kind := rfl
    rw [collides]
    refine ⟨fun early retry => ?_, fun early once => ?_, fun tenth => ?_⟩
    · rw [State.collide_backs_off early (Bool.eq_false_iff.2 fun once => retry (State.noRetry_iff.1 once))]
      rfl
    · rw [State.collide_discards early (State.noRetry_iff.2 once), cut]
      exact ⟨fun absent => congrArg _ (State.frameDiscarded_none absent),
        fun n c source found => congrArg _ (State.frameDiscarded_some source found)⟩
    · rw [State.collide_drops tenth]
      refine ⟨fun n source => ?_, fun w own source => ?_, fun select source => ?_, fun w own last source => ?_,
        fun n gone source absent => ?_, fun n c source found => ?_⟩
      · rw [State.frameDropped_release source, fails]
      · rw [State.frameDropped_announce source, fails]
      · rw [State.frameDropped_survey source, fails]
      · rw [State.frameDropped_answer source, fails]
        exact ⟨fun again => congrArg _ (if_neg (Bool.eq_false_iff.1 again)), fun final => congrArg _ (if_pos final)⟩
      · rw [State.frameDropped_claim source, fails]
        exact congrArg _ (State.claimDropped_gone (s := failed .claim) absent)
      · rw [State.frameDropped_claim source, fails, State.claimDropped_some (s := failed .claim) found]
        refine ⟨fun gone => by rw [gone]; rfl, fun kept unsent => by rw [kept, unsent]; rfl,
          fun kept t last => by rw [kept, last]; rfl⟩

end Sys2Proof.Machine

namespace Sys2Proof.Machine

/-! ### Survey windows opened (R131) -/

/-- A window opened at a wall's place. -/
def WallPlace.openedAt (due : LocalTime) (p : WallPlace) : WallPlace :=
  { p with window := some { due := due, dropMark := false } }

section
variable {s : State} {f : CurrentFrame}

/-- Places changed one after another by an idempotent change. -/
theorem getElem?_foldl_modify {α : Type} {g : α → α} (idem : ∀ x, g (g x) = g x) (ws : List Nat) (l : List α)
    (i : Nat) :
    (ws.foldl (fun l w => l.modify w g) l)[i]? = l[i]?.map fun x => if i ∈ ws then g x else x := by
  induction ws generalizing l with
  | nil => simp
  | cons w ws ih =>
    rw [List.foldl_cons, ih, List.getElem?_modify]
    cases l[i]? with
    | none => split <;> rfl
    | some x =>
      by_cases here : w = i <;> by_cases later : i ∈ ws <;> simp [here, later, idem, Ne.symm]

theorem State.foldl_openWindow (ws : List Nat) (s : State) :
    ws.foldl State.openWindow s =
      { s with
        walls := ws.foldl
          (fun l w => l.modify w (WallPlace.openedAt (later s.now (4 * s.cfg.refresh)))) s.walls } := by
  induction ws generalizing s with
  | nil => rfl
  | cons w ws ih => rw [List.foldl_cons, ih, List.foldl_cons]; rfl

theorem State.mem_definedWalls {i : Nat} :
    i ∈ s.definedWalls ↔ i < 16 ∧ (s.wall i).definition.isSome = true := by
  rw [State.definedWalls, List.mem_filter, wallNumbers, List.mem_range]

/-- A SURVEY of all walls opens the window of each that is defined. -/
theorem State.surveySent_all (few : s.walls.length ≤ 16) :
    s.surveySent .all =
      { s with
        walls := s.walls.map fun p =>
          if p.definition.isSome then p.openedAt (later s.now (4 * s.cfg.refresh)) else p } := by
  have walls : s.definedWalls.foldl
        (fun l w => l.modify w (WallPlace.openedAt (later s.now (4 * s.cfg.refresh)))) s.walls
      = s.walls.map fun p =>
        if p.definition.isSome then p.openedAt (later s.now (4 * s.cfg.refresh)) else p := by
    refine List.ext_getElem? fun i => ?_
    rw [getElem?_foldl_modify (g := WallPlace.openedAt _) (fun p => rfl), List.getElem?_map]
    cases place : s.walls[i]? with
    | none => rfl
    | some p =>
      have bound : i < 16 := by
        obtain ⟨inside, -⟩ := List.getElem?_eq_some_iff.1 place
        omega
      have wall : s.wall i = p := by rw [State.wall, List.getD_eq_getElem?_getD, place]; rfl
      simp only [Option.map_some, State.mem_definedWalls, wall, bound, true_and]
  change s.definedWalls.foldl State.openWindow s = _
  rw [State.foldl_openWindow, walls]

/-! ### Frames sent (R109) -/

theorem exec_sendCompletion_early (sent : s.sentFrame = some f) (more : f.sent < f.octets.length) :
    exec .sendCompletion s = .next s := by
  have unfinished : s.wholeFrame = none := by
    rw [State.wholeFrame, sent]
    exact Option.filter_some_neg (decide_eq_false (Nat.not_le.2 more))
  change execSendCompletion s = _
  rw [execSendCompletion, unfinished]

theorem exec_sendCompletion_whole (sent : s.sentFrame = some f) (whole : f.octets.length ≤ f.sent) :
    exec .sendCompletion s = .next ((s.withCurrent none).frameSent f) := by
  have finished : s.wholeFrame = some f := by
    rw [State.wholeFrame, sent]
    exact Option.filter_some_pos (decide_eq_true whole)
  change execSendCompletion s = _
  simp only [execSendCompletion, finished]

theorem State.frameSent_release {n : Octet} (source : f.source = .release n) : s.frameSent f = s := by
  simp only [State.frameSent, source]

theorem State.frameSent_announce {w : Nat} {own : List Slot} (source : f.source = .ownAnnounce w own) :
    s.frameSent f = s.laidSent w own := by
  simp only [State.frameSent, source]

theorem State.frameSent_answer {w : Nat} {own : List Slot} {last : Option Slot}
    (source : f.source = .answer w own last) :
    s.frameSent f =
      if f.lastAttempt then s.serveBulk.laidSent w own
      else (s.serveBulk.laidSent w own).advanceAnswer w last := by
  simp only [State.frameSent, source]

theorem State.frameSent_survey {select : WallSelect} (source : f.source = .survey select) :
    s.frameSent f = if f.lastAttempt then s else s.surveySent select := by
  simp only [State.frameSent, source]

theorem State.frameSent_claim {n : Octet} {gone : Bool} (source : f.source = .claim n gone) :
    s.frameSent f = s.claimFrameSent n gone := by
  simp only [State.frameSent, source]

theorem State.claimFrameSent_gone {n : Octet} {gone : Bool} (absent : gone = true ∨ s.ownClaim n = none) :
    s.claimFrameSent n gone = s := by
  rcases absent with rfl | none
  · exact if_pos rfl
  · rw [State.claimFrameSent, none]
    exact ite_self _

theorem State.claimFrameSent_some {n : Octet} {c : OwnClaim} (found : s.ownClaim n = some c) :
    s.claimFrameSent n false =
      if c.abandoned then ((s.deleteClaim n).queueRelease n).reevaluate else s.claimSent c := by
  rw [State.claimFrameSent, found]
  exact if_neg (by decide)

end

/-- Settles O26: the frame sent by its source, the last attempt moving no answer and opening no window. -/
theorem sentFramesTakeEffect : Obligations.SentFramesTakeEffect := by
  intro s f active current sending
  have sent := State.sentFrame_sending active current sending
  refine ⟨exec_sendCompletion_early sent, fun whole => ?_⟩
  rw [exec_sendCompletion_whole sent whole]
  intro ended cleared opened
  have cut : s.withCurrent none = ended := rfl
  have laid (t : State) (w : Nat) (own : List Slot) : t.laidSent w own = cleared t w own := rfl
  rw [cut]
  clear_value cleared
  refine ⟨fun n source => by rw [State.frameSent_release source],
    fun w own source => by rw [State.frameSent_announce source, laid],
    fun w own last source => ?_, fun select source last => ?_, fun w source first => ?_,
    fun source first few => ?_, fun n gone source absent => ?_, fun n c source found kept => ?_,
    fun n c source found gone => ?_⟩
  · rw [State.frameSent_answer source, laid]
    exact ⟨fun first => congrArg _ (if_neg (Bool.eq_false_iff.1 first)), fun last => congrArg _ (if_pos last)⟩
  · rw [State.frameSent_survey source, if_pos last]
  · rw [State.frameSent_survey source, if_neg (Bool.eq_false_iff.1 first)]
    rfl
  · rw [State.frameSent_survey source, if_neg (Bool.eq_false_iff.1 first),
      State.surveySent_all (s := ended) few]
    rfl
  · rw [State.frameSent_claim source, State.claimFrameSent_gone (s := ended) absent]
  · have number := State.ownClaim_number found
    rw [State.frameSent_claim source, State.claimFrameSent_some (s := ended) found,
      if_neg (Bool.eq_false_iff.1 kept)]
    subst number
    refine ⟨fun unsent => ?_, fun t last => ?_⟩
    · rw [State.claimSent, unsent]; rfl
    · rw [State.claimSent, last]; rfl
  · rw [State.frameSent_claim source, State.claimFrameSent_some (s := ended) found, if_pos gone]

end Sys2Proof.Machine

namespace Sys2Proof.Machine

/-! ### An owed SURVEY notice and the waiting walls (R104, R127, R130) -/

section
variable {s t : State}

theorem State.bulkFree_iff : s.bulkFree = true ↔ s.tx.bulk.length < 16 := decide_eq_true_iff

theorem State.answerReady_iff : s.answerReady = true ↔
    s.inRestart = false ∧ s.surveyOwed = false ∧ s.notice.waitingWalls ≠ [] ∧ s.bulkFree = true := by
  simp [State.answerReady, and_assoc]

theorem State.announceReady_iff : s.announceReady = true ↔
    s.inRestart = false ∧ s.site.state.onSite = true ∧ s.surveyOwed = false ∧ s.notice.waitingWalls = []
      ∧ s.bulkFree = true ∧ ∃ w, s.announceWall = some w := by
  simp [State.announceReady, and_assoc, Option.isSome_iff_exists]

theorem State.serveSurvey_idle (idle : s.surveyReady = false) : s.serveSurvey = s :=
  if_neg (Bool.eq_false_iff.1 idle)

theorem State.serveSurvey_ready (ready : s.surveyReady = true) : s.serveSurvey = s.queueSurvey := if_pos ready

theorem State.serveAnswer_idle (idle : s.answerReady = false) : s.serveAnswer = s :=
  if_neg (Bool.eq_false_iff.1 idle)

theorem State.serveAnnounce_idle (idle : s.announceReady = false) : s.serveAnnounce = s :=
  if_neg (Bool.eq_false_iff.1 idle)

theorem State.serveAnswer_ready {w : Nat} {rest : List Nat} (ready : s.answerReady = true)
    (first : s.notice.waitingWalls = w :: rest) :
    s.serveAnswer =
      (({ s with notice := { s.notice with waitingWalls := rest } } : State).withBulk
        (s.tx.bulk ++ [.answer w none])).setAnswer w .queued := by
  rw [State.serveAnswer, if_pos ready, State.queueAnswer, first]

theorem State.serveAnnounce_ready {w : Nat} (ready : s.announceReady = true) (first : s.announceWall = some w) :
    s.serveAnnounce = s.withBulk (s.tx.bulk ++ [.ownAnnounce w]) := by
  rw [State.serveAnnounce, if_pos ready, State.queueAnnounce, first]

/-- What a wall has to announce is not touched by its answer state. -/
theorem State.wallOwes_setAnswer (w v : Nat) (a : AnswerState) :
    (s.setAnswer w a).wallOwes v = s.wallOwes v := by
  have height : ((s.setAnswer w a).wall v).heightOwed = (s.wall v).heightOwed := by
    rw [State.wall, State.wall, List.getD_eq_getElem?_getD, List.getD_eq_getElem?_getD]
    change ((s.walls.modify w _)[v]?.getD _).heightOwed = _
    rw [List.getElem?_modify]
    cases s.walls[v]? with
    | none => split <;> rfl
    | some p => split <;> rfl
  rw [State.wallOwes, State.wallOwes, height]
  rfl

/-- The first `k` waiting walls of `s` have their answers queued in `t`. -/
structure State.Answered (s t : State) (k : Nat) : Prop where
  bulk : t.tx.bulk = s.tx.bulk ++ (s.notice.waitingWalls.take k).map fun w => BulkRecord.answer w none
  waiting : t.notice.waitingWalls = s.notice.waitingWalls.drop k
  survey : t.notice.survey = s.notice.survey
  current : t.tx.current = s.tx.current
  owes : ∀ w, t.wallOwes w = s.wallOwes w

theorem State.Answered.refl (s : State) : s.Answered s 0 :=
  ⟨by rw [List.take_zero, List.map_nil, List.append_nil], by rw [List.drop_zero], rfl, rfl, fun _ => rfl⟩

/-- The next waiting wall takes a place. -/
theorem State.Answered.serve {k : Nat} (h : s.Answered t k) (ready : t.answerReady = true) :
    s.Answered t.serveAnswer (k + 1)
      ∧ t.serveAnswer.notice.waitingWalls.length + 1 = t.notice.waitingWalls.length := by
  obtain ⟨-, -, some, -⟩ := State.answerReady_iff.1 ready
  obtain ⟨w, rest, first⟩ := List.exists_cons_of_ne_nil some
  have served := State.serveAnswer_ready ready first
  have left : s.notice.waitingWalls.drop k = w :: rest := h.waiting.symm.trans first
  have next : s.notice.waitingWalls[k]? = Option.some w := by
    rw [← List.head?_drop, left]; rfl
  have bulk : t.serveAnswer.tx.bulk = t.tx.bulk ++ [.answer w none] := by rw [served]; rfl
  have waiting : t.serveAnswer.notice.waitingWalls = rest := by rw [served]; rfl
  refine ⟨⟨?_, ?_, ?_, ?_, fun v => ?_⟩, by rw [waiting, first]; rfl⟩
  · rw [bulk, h.bulk, List.take_add_one, next, List.map_append, List.append_assoc]
    rfl
  · rw [waiting, ← List.tail_drop, left]
    rfl
  · rw [served]; exact h.survey
  · rw [served]; exact h.current
  · rw [served, State.wallOwes_setAnswer]
    exact h.owes v

theorem State.foldl_serveAnswer_idle (idle : t.answerReady = false) (xs : List Nat) :
    xs.foldl (fun t _ => t.serveAnswer) t = t := by
  induction xs with
  | nil => rfl
  | cons x xs fixed => rw [List.foldl_cons, State.serveAnswer_idle idle, fixed]

theorem State.foldl_serveAnnounce_idle (idle : t.announceReady = false) (xs : List Nat) :
    xs.foldl (fun t _ => t.serveAnnounce) t = t := by
  induction xs with
  | nil => rfl
  | cons x xs fixed => rw [List.foldl_cons, State.serveAnnounce_idle idle, fixed]

/-- Places offered to the waiting walls one after another, until none is ready. -/
theorem State.foldl_serveAnswer (xs : List Nat) (k : Nat) (h : s.Answered t k) :
    ∃ k, s.Answered (xs.foldl (fun t _ => t.serveAnswer) t) k
      ∧ ((xs.foldl (fun t _ => t.serveAnswer) t).answerReady = false
        ∨ (xs.foldl (fun t _ => t.serveAnswer) t).notice.waitingWalls.length + xs.length
          = t.notice.waitingWalls.length) := by
  induction xs generalizing t k with
  | nil => exact ⟨k, h, .inr rfl⟩
  | cons x xs ih =>
    rw [List.foldl_cons]
    cases ready : t.answerReady with
    | false =>
      rw [State.serveAnswer_idle ready, State.foldl_serveAnswer_idle ready]
      exact ⟨k, h, .inl ready⟩
    | true =>
      obtain ⟨served, shorter⟩ := h.serve ready
      obtain ⟨m, answered, rest⟩ := ih (k + 1) served
      refine ⟨m, answered, rest.imp_right fun counts => ?_⟩
      rw [List.length_cons]
      omega

/-- What the offers to the older sources do. -/
theorem State.serveOlder_answered (s : State) :
    (∃ k, s.serveSurvey.Answered s.serveOlder k) ∧ s.serveOlder.answerReady = false := by
  obtain ⟨k, answered, done⟩ := s.serveSurvey.foldl_serveAnswer s.serveSurvey.notice.waitingWalls 0 (.refl _)
  refine ⟨⟨k, answered⟩, done.elim id fun counts => ?_⟩
  have none : s.serveOlder.notice.waitingWalls = [] := List.eq_nil_of_length_eq_zero (by
    change s.serveOlder.notice.waitingWalls.length + _ = _ at counts
    omega)
  rw [Bool.eq_false_iff, ne_eq, State.answerReady_iff]
  exact fun ready => ready.2.2.1 none

theorem State.inRestart_frame {l : List Block} (frame : Frame l s t) (kept : Block.supply ∉ l) :
    t.inRestart = s.inRestart := by
  have supply : t.supply = s.supply := frame .supply kept
  rw [State.inRestart, State.inRestart, supply]

theorem State.surveyOwed_congr (same : t.notice.survey = s.notice.survey) : t.surveyOwed = s.surveyOwed := by
  rw [State.surveyOwed, State.surveyOwed, same]

theorem State.surveyReady_eq_false (running : s.inRestart = false) :
    s.surveyReady = false ↔ s.surveyOwed = false ∨ s.bulkFree = false := by
  simp only [State.surveyReady, running, Bool.not_false, Bool.true_and, Bool.and_eq_false_iff]

/-- Once the SURVEY notice has been offered a place, none is owed or none is free. -/
theorem State.serveSurvey_not_ready (s : State) : s.serveSurvey.surveyReady = false := by
  cases ready : s.surveyReady with
  | false => rwa [State.serveSurvey_idle ready]
  | true =>
    rw [State.serveSurvey_ready ready, Bool.eq_false_iff]
    cases pending : s.notice.survey with
    | none => simp [State.surveyReady, State.surveyOwed, State.queueSurvey, pending]
    | some p => simp [State.surveyReady, State.surveyOwed, State.queueSurvey, pending]

/-- Records that join the bulk queue make no source ready. -/
theorem State.bulkFree_of_append {l : List BulkRecord} (bulk : t.tx.bulk = s.tx.bulk ++ l)
    (free : t.bulkFree = true) : s.bulkFree = true := by
  rw [State.bulkFree_iff, bulk, List.length_append] at free
  rw [State.bulkFree_iff]
  omega

theorem State.surveyReady_of_append {l : List BulkRecord} (frame : t.inRestart = s.inRestart)
    (survey : t.notice.survey = s.notice.survey) (bulk : t.tx.bulk = s.tx.bulk ++ l)
    (idle : s.surveyReady = false) : t.surveyReady = false := by
  rw [Bool.eq_false_iff] at idle ⊢
  refine fun ready => idle ?_
  simp only [State.surveyReady, Bool.and_eq_true] at ready ⊢
  rw [frame, State.surveyOwed_congr survey] at ready
  exact ⟨ready.1, State.bulkFree_of_append bulk ready.2⟩

theorem State.serveOlder_surveyReady (s : State) : s.serveOlder.surveyReady = false := by
  obtain ⟨⟨k, answered⟩, -⟩ := s.serveOlder_answered
  have running : s.serveOlder.inRestart = s.serveSurvey.inRestart :=
    (State.inRestart_frame s.serveOlder_frame (by decide)).trans
      (State.inRestart_frame s.serveSurvey_frame (by decide)).symm
  exact State.surveyReady_of_append running answered.survey answered.bulk s.serveSurvey_not_ready

/-! ### Walls with something to announce (R13) -/

/-- Own-announce records of these walls queued in `s`: the walls of `s` that owe and are not announcing,
from the lowest. -/
structure State.Announces (s : State) (walls : List Nat) : Prop where
  ascending : walls.Pairwise (· < ·)
  owing : ∀ w ∈ walls, s.wallOwes w = true ∧ s.tx.announcing w = false
  lower : ∀ w ∈ walls, ∀ v < w, s.wallOwes v = true → s.tx.announcing v = false → v ∈ walls

/-- The state with own-announce records queued. -/
def State.withAnnounces (s : State) (walls : List Nat) : State :=
  s.withBulk (s.tx.bulk ++ walls.map BulkRecord.ownAnnounce)

theorem State.withAnnounces_nil (s : State) : s.withAnnounces [] = s := by
  rw [State.withAnnounces, List.map_nil, List.append_nil]
  rfl

theorem State.announcing_withAnnounces {walls : List Nat} {w : Nat} :
    (s.withAnnounces walls).tx.announcing w = (s.tx.announcing w || walls.contains w) := by
  have queued : (s.tx.bulk ++ walls.map BulkRecord.ownAnnounce).contains (.ownAnnounce w)
      = (s.tx.bulk.contains (.ownAnnounce w) || walls.contains w) := by
    rw [List.contains_append]
    congr 1
    rw [Bool.eq_iff_iff, List.contains_iff_mem, List.contains_iff_mem, List.mem_map]
    exact ⟨fun ⟨v, held, same⟩ => by cases same; exact held, fun held => ⟨w, held, rfl⟩⟩
  rw [Transmitter.announcing, Transmitter.announcing]
  change ((s.tx.bulk ++ walls.map BulkRecord.ownAnnounce).contains (.ownAnnounce w) || _) = _
  rw [queued, Bool.or_assoc, Bool.or_comm (walls.contains w), ← Bool.or_assoc]
  rfl

theorem State.announceWall_eq_some {w : Nat} : s.announceWall = some w ↔
    w < 16 ∧ s.wallOwes w = true ∧ s.tx.announcing w = false
      ∧ ∀ v < w, s.wallOwes v = true → s.tx.announcing v = true := by
  simp only [State.announceWall, wallNumbers, List.find?_range_eq_some, List.mem_range, Bool.and_eq_true,
    Bool.not_eq_true', Bool.not_and, Bool.not_not, Bool.or_eq_true]
  refine ⟨fun ⟨⟨owes, free⟩, bound, lower⟩ => ⟨bound, owes, free, fun v below owing => ?_⟩,
    fun ⟨bound, owes, free, lower⟩ => ⟨⟨owes, free⟩, bound, fun v below => ?_⟩⟩
  · exact (lower v below).resolve_left (by rw [owing]; decide)
  · cases owing : s.wallOwes v with
    | false => exact .inl rfl
    | true => exact .inr (lower v below owing)

/-- The next wall announces. -/
theorem State.Announces.serve {walls : List Nat} (h : s.Announces walls)
    (ready : (s.withAnnounces walls).announceReady = true) :
    ∃ more, s.Announces more ∧ more.length = walls.length + 1
      ∧ (s.withAnnounces walls).serveAnnounce = s.withAnnounces more := by
  obtain ⟨-, -, -, -, -, w, first⟩ := State.announceReady_iff.1 ready
  obtain ⟨bound, owes, silent, lower⟩ := State.announceWall_eq_some.1 first
  rw [State.announcing_withAnnounces, Bool.or_eq_false_iff] at silent
  obtain ⟨quiet, fresh⟩ := silent
  have fresh : w ∉ walls := by
    rw [← List.contains_iff_mem, fresh]
    exact Bool.false_ne_true
  have below : ∀ v ∈ walls, v < w := fun v held => by
    rcases Nat.lt_trichotomy v w with less | same | more
    · exact less
    · exact absurd (same ▸ held) fresh
    · exact absurd (h.lower v held w more owes quiet) fresh
  refine ⟨walls ++ [w], ⟨?_, ?_, ?_⟩, List.length_append, ?_⟩
  · exact List.pairwise_append.2 ⟨h.ascending, List.pairwise_singleton _ _, fun v held x last => by
      rw [List.mem_singleton.1 last]; exact below v held⟩
  · intro v held
    rcases List.mem_append.1 held with old | new
    · exact h.owing v old
    · rw [List.mem_singleton.1 new]; exact ⟨owes, quiet⟩
  · intro v held x less owing silent
    refine List.mem_append.2 ?_
    rcases List.mem_append.1 held with old | new
    · exact .inl (h.lower v old x less owing silent)
    · rw [List.mem_singleton.1 new] at less
      have told := lower x less owing
      rw [State.announcing_withAnnounces, silent, Bool.false_or, List.contains_iff_mem] at told
      exact .inl told
  · rw [State.serveAnnounce_ready ready first, State.withAnnounces, State.withAnnounces, List.map_append]
    change s.withBulk ((s.tx.bulk ++ _) ++ _) = _
    rw [List.append_assoc]
    rfl

/-- Places offered to the walls one after another, until none is ready. -/
theorem State.foldl_serveAnnounce (xs : List Nat) (walls : List Nat) (h : s.Announces walls) :
    ∃ more, s.Announces more
      ∧ xs.foldl (fun t _ => t.serveAnnounce) (s.withAnnounces walls) = s.withAnnounces more
      ∧ ((s.withAnnounces more).announceReady = false ∨ more.length = walls.length + xs.length) := by
  induction xs generalizing walls with
  | nil => exact ⟨walls, h, rfl, .inr rfl⟩
  | cons x xs ih =>
    rw [List.foldl_cons]
    cases ready : (s.withAnnounces walls).announceReady with
    | false =>
      exact ⟨walls, h, by rw [State.serveAnnounce_idle ready, State.foldl_serveAnnounce_idle ready], .inl ready⟩
    | true =>
      obtain ⟨more, announces, longer, served⟩ := h.serve ready
      obtain ⟨last, done, same, rest⟩ := ih more announces
      refine ⟨last, done, by rw [served, same], rest.imp_right fun counts => ?_⟩
      rw [List.length_cons]
      omega

/-- What the offers to every source do behind those to the older ones. -/
theorem State.serveBulk_announces (s : State) :
    (∃ walls, s.serveOlder.Announces walls ∧ s.serveBulk = s.serveOlder.withAnnounces walls)
      ∧ s.serveBulk.announceReady = false := by
  have start : s.serveOlder.Announces [] := ⟨.nil, nofun, nofun⟩
  obtain ⟨walls, announces, served, done⟩ := s.serveOlder.foldl_serveAnnounce wallNumbers [] start
  rw [State.withAnnounces_nil] at served
  have bulk : s.serveBulk = s.serveOlder.withAnnounces walls := served
  refine ⟨⟨walls, announces, bulk⟩, ?_⟩
  rw [bulk]
  refine done.elim id fun counts => Bool.eq_false_iff.2 fun ready => ?_
  obtain ⟨-, -, -, -, free, -⟩ := State.announceReady_iff.1 ready
  have long : walls.length = 16 := by rw [counts]; rfl
  rw [State.bulkFree_iff] at free
  change (s.serveOlder.tx.bulk ++ walls.map _).length < 16 at free
  rw [List.length_append, List.length_map] at free
  omega

theorem State.serveBulk_surveyReady (s : State) : s.serveBulk.surveyReady = false := by
  obtain ⟨⟨walls, -, bulk⟩, -⟩ := s.serveBulk_announces
  rw [bulk]
  exact State.surveyReady_of_append (s := s.serveOlder) rfl rfl rfl s.serveOlder_surveyReady

theorem State.serveBulk_answerReady (s : State) : s.serveBulk.answerReady = false := by
  obtain ⟨⟨walls, -, bulk⟩, -⟩ := s.serveBulk_announces
  rw [bulk, Bool.eq_false_iff, ne_eq, State.answerReady_iff]
  rintro ⟨running, unowed, waiting, free⟩
  have ready : s.serveOlder.answerReady = true :=
    State.answerReady_iff.2 ⟨running, unowed, waiting, State.bulkFree_of_append (s := s.serveOlder) rfl free⟩
  rw [s.serveOlder_answered.2] at ready
  cases ready

end

end Sys2Proof.Machine

namespace Sys2Proof.Machine

section
variable {s : State}

/-! ### SURVEY requested (R130) -/

theorem WallSelect.ofCode_eq {w : Octet} :
    WallSelect.ofCode w = if w.toNat = 255 then .all else .one w.toNat :=
  if_congr (by rw [← BitVec.toNat_inj]; rfl) rfl rfl

theorem mergeSurvey_none (select : WallSelect) :
    mergeSurvey none select = { select := select, queued := false } := rfl

theorem mergeSurvey_same {p : PendingSurvey} {select : WallSelect} (same : p.select = select) :
    mergeSurvey (some p) select = p := by
  subst same
  rw [mergeSurvey, if_pos rfl]

theorem mergeSurvey_other {p : PendingSurvey} {select : WallSelect} (other : p.select ≠ select) :
    mergeSurvey (some p) select = { select := .all, queued := p.queued } := by
  rw [mergeSurvey, if_neg other]

theorem State.surveyOwed_eq_false (queued : ∀ p, s.notice.survey = some p → p.queued = true) :
    s.surveyOwed = false := by
  rw [State.surveyOwed, Option.any_eq_false]
  exact fun p pending => by rw [queued p pending]; decide

theorem State.queueSurvey_some {p : PendingSurvey} (pending : s.notice.survey = some p) :
    s.queueSurvey =
      { s with
        notice := { s.notice with survey := some { p with queued := true } }
        tx := { s.tx with bulk := s.tx.bulk ++ [.survey] } } := by
  rw [State.queueSurvey, pending]
  rfl

theorem State.wallOwes_iff {w : Nat} : s.wallOwes w = true ↔
    (∃ r ∈ s.map.records, r.slot.wall = w ∧ r.own = true ∧ r.owed = true)
      ∨ (s.wall w).heightOwed = true := by
  simp [State.wallOwes, and_assoc]

theorem State.serveSurvey_answered (running : s.inRestart = false) :
    s.serveSurvey.tx.bulk = s.tx.bulk ++ (if s.surveyOwed && s.bulkFree then [.survey] else [])
      ∧ s.serveSurvey.notice.waitingWalls = s.notice.waitingWalls
      ∧ (∀ w, s.serveSurvey.wallOwes w = s.wallOwes w)
      ∧ ∀ w, s.serveSurvey.tx.announcing w = s.tx.announcing w := by
  have ready : s.surveyReady = (s.surveyOwed && s.bulkFree) := by
    rw [State.surveyReady, running, Bool.not_false, Bool.true_and]
  cases offered : s.surveyOwed && s.bulkFree with
  | false =>
    rw [State.serveSurvey_idle (ready.trans offered), if_neg (by decide), List.append_nil]
    exact ⟨rfl, rfl, fun _ => rfl, fun _ => rfl⟩
  | true =>
    rw [State.serveSurvey_ready (ready.trans offered)]
    refine ⟨rfl, rfl, fun _ => rfl, fun w => ?_⟩
    change ((s.tx.bulk ++ [BulkRecord.survey]).contains _ || _) = (s.tx.bulk.contains _ || _)
    rw [List.contains_append]
    simp
    rfl

/-- Answers queued announce no wall. -/
theorem State.Answered.announcing {t : State} {k : Nat} (h : s.Answered t k) (w : Nat) :
    t.tx.announcing w = s.tx.announcing w := by
  have none : ((s.notice.waitingWalls.take k).map fun v => BulkRecord.answer v none).contains
      (.ownAnnounce w) = false := by
    rw [Bool.eq_false_iff, ne_eq, List.contains_iff_mem, List.mem_map]
    rintro ⟨_, _, same⟩
    cases same
  rw [Transmitter.announcing, Transmitter.announcing, h.bulk, h.current, List.contains_append, none,
    Bool.or_false]

end

/-- Settles O27: the rows offer one place each, and the folds over them leave no source ready. -/
theorem surveyRequestsAndBulkPlaces : Obligations.SurveyRequestsAndBulkPlaces := by
  refine ⟨fun s w ready joined => ?request,
    fun s running => ⟨fun p noticed unqueued room => ?_, fun w rest first queued room => ?_,
      fun w bound site none queued room owes silent lower => ?_⟩,
    fun s running => ?places, fun s w => State.wallOwes_iff⟩
  case request =>
    intro select served pending named
    have selected : WallSelect.ofCode w = select := WallSelect.ofCode_eq
    clear_value select
    have accepted : State.replySurvey w (s.taken (.surveyRequest w))
        = ((s.taken (.surveyRequest w)).pendSurvey select).accept := by
      rw [State.replySurvey_accepted (s := s.taken _) joined named, selected]
    have answered := State.onRequest_accepted (k := .survey) (run := State.replySurvey w) ready accepted
    have pends : (s.taken (.surveyRequest w)).pendSurvey select
        = pending (mergeSurvey served.notice.survey select) := by rw [State.pendSurvey]
    rw [pends] at answered
    have next : exec (.surveyRequest w) s
        = .next ((pending (mergeSurvey served.notice.survey select)).produce 0x31 .ok .plain) := answered
    rw [next]
    clear_value pending served
    refine ⟨fun none => by rw [none, mergeSurvey_none], fun p some => ?_⟩
    rw [some]
    exact ⟨fun same => by rw [mergeSurvey_same same], fun other => by rw [mergeSurvey_other other]⟩
  · have ready : s.surveyReady = true := by
      rw [State.surveyReady, running, State.surveyOwed, noticed, Option.any_some, unqueued,
        State.bulkFree_iff.2 room]
      rfl
    change Host.Outcome.next s.serveSurvey = _
    rw [State.serveSurvey_ready ready, State.queueSurvey_some noticed]
  · have ready : s.answerReady = true := State.answerReady_iff.2
      ⟨running, State.surveyOwed_eq_false queued, by rw [first]; exact List.cons_ne_nil _ _,
        State.bulkFree_iff.2 room⟩
    change Host.Outcome.next s.serveAnswer = _
    rw [State.serveAnswer_ready ready first]
    rfl
  · have announces : s.announceWall = some w := State.announceWall_eq_some.2
      ⟨bound, owes, silent, fun v below owing => (lower v below).resolve_left (by rw [owing]; decide)⟩
    have ready : s.announceReady = true := State.announceReady_iff.2
      ⟨running, site, State.surveyOwed_eq_false queued, none, State.bulkFree_iff.2 room, w, announces⟩
    change Host.Outcome.next s.serveAnnounce = _
    rw [State.serveAnnounce_ready ready announces]
    rfl
  case places =>
    intro owed
    obtain ⟨bulk, waiting, owes, announcing⟩ := State.serveSurvey_answered running
    obtain ⟨⟨k, answered⟩, idle⟩ := s.serveOlder_answered
    obtain ⟨⟨walls, announces, served⟩, silent⟩ := s.serveBulk_announces
    refine ⟨⟨k, ?_, ?_⟩, ⟨walls, by rw [served]; rfl, announces.ascending, fun w held => ?_⟩,
      s.serveOlder_surveyReady, idle, s.serveBulk_surveyReady, s.serveBulk_answerReady, silent⟩
    · rw [answered.bulk, bulk, waiting]
    · rw [answered.waiting, waiting]
    · obtain ⟨owing, quiet⟩ := announces.owing w held
      rw [answered.owes, owes] at owing
      rw [answered.announcing, announcing] at quiet
      exact ⟨owing, quiet⟩

/-! ### Surveys answered (R126 to R128) -/

section
variable {s : State} {w : Nat}

/-- Every source that waits has been offered a place already. -/
theorem State.serveOlder_serveBulk (s : State) : s.serveBulk.serveOlder = s.serveBulk := by
  rw [State.serveOlder, State.serveSurvey_idle s.serveBulk_surveyReady,
    State.foldl_serveAnswer_idle s.serveBulk_answerReady]

theorem State.surveyWall_idle (idle : (s.wall w).answer = .idle) :
    s.surveyWall w = s.serveBulk.oweAnswer w := by
  rw [State.surveyWall, idle]

theorem State.surveyWall_pending (pending : (s.wall w).answer = .waiting ∨ (s.wall w).answer = .queued) :
    s.surveyWall w = s := by
  rcases pending with waiting | queued
  · rw [State.surveyWall, waiting]
  · rw [State.surveyWall, queued]

theorem State.surveyWall_answering (answering : (s.wall w).answer = .answering) :
    s.surveyWall w = s.mapWall w fun p => { p with again := true } := by
  rw [State.surveyWall, answering]

/-- An answer of a wall queued, or its wall waiting where no bulk place is free. -/
def State.answerQueued (t : State) (w : Nat) : State :=
  if t.tx.bulk.length < 16 then (t.withBulk (t.tx.bulk ++ [.answer w none])).setAnswer w .queued
  else
    ({ t with notice := { t.notice with waitingWalls := t.notice.waitingWalls ++ [w] } }
      : State).setAnswer w .waiting

theorem State.oweAnswer_eq : s.oweAnswer w = s.serveOlder.answerQueued w :=
  if_congr State.bulkFree_iff rfl rfl

theorem State.advanceAnswer_eq {v : Nat} {cursor last : Option Slot} {rest : List BulkRecord}
    (head : s.tx.bulk = .answer v cursor :: rest) :
    s.advanceAnswer w last =
      if (s.recordsAfter w (last.or cursor)).isEmpty then s.endAnswer w
      else s.withBulk (.answer w (last.or cursor) :: rest) := by
  simp only [State.advanceAnswer, head]

theorem State.mem_recordsAfter {cursor : Option Slot} {r : SlotRecord} :
    r ∈ s.recordsAfter w cursor ↔
      r ∈ s.map.records ∧ r.slot.wall = w ∧ ∀ k, cursor = some k → k.before r.slot = true := by
  rw [State.recordsAfter, List.mem_filter, Bool.and_eq_true, beq_iff_eq]
  cases cursor <;> simp

end

theorem Option.or_eq_ite {α : Type} (a b : Option α) : a.or b = if a.isSome then a else b := by
  cases a <;> rfl

/-- Settles O28: the answer states one by one, an answer joining behind the older sources. -/
theorem surveysAreAnswered : Obligations.SurveysAreAnswered := by
  refine ⟨?answers, fun s v w cursor last rest head => ?cursor⟩
  case answers =>
    intro queued
    have joins (t : State) (w : Nat) : t.answerQueued w = queued t w := rfl
    clear_value queued
    refine ⟨fun s w => ⟨fun idle => ?_, State.surveyWall_pending, State.surveyWall_answering⟩,
      fun s w => And.intro (fun once => if_neg (Bool.eq_false_iff.1 once)) fun again => ?_⟩
    · rw [State.surveyWall_idle idle, State.oweAnswer_eq, State.serveOlder_serveBulk, joins]
    · have owes : s.endAnswer w =
          ((s.withBulk s.tx.bulk.tail).mapWall w fun p => { p with answer := .idle, again := false }).oweAnswer w :=
        if_pos again
      rw [owes, State.oweAnswer_eq, joins]
      rfl
  case cursor =>
    intro next beyond
    have after : last.or cursor = next := Option.or_eq_ite last cursor
    rw [State.advanceAnswer_eq head, after]
    refine ⟨fun none => if_pos ?_, fun r held => if_neg fun empty => ?_⟩
    · rw [List.isEmpty_iff, List.eq_nil_iff_forall_not_mem]
      exact fun r held => none r (State.mem_recordsAfter.1 held)
    · rw [List.isEmpty_iff] at empty
      have member := State.mem_recordsAfter.2 held
      rw [empty] at member
      cases member

end Sys2Proof.Machine

namespace Sys2Proof.Machine

/-! ### Frames taken (R115 to R119) -/

section
variable {s : State}

/-- The FIRM decision of a claim is due (R86). -/
def OwnClaim.DecisionDue (c : OwnClaim) : Prop :=
  c.abandoned = false ∧ c.state = .tentative ∧ c.decision = .due

/-- With a complete frame stored only a decision that is marked due is taken. -/
theorem State.decides_iff {f : StoredFrame} {rest : List StoredFrame} {c : OwnClaim}
    (frames : s.rx.frames = f :: rest) :
    (!c.abandoned && c.state == .tentative
      && (c.decision == .due || (c.settles s.now && s.rx.frames.isEmpty))) = true ↔ c.DecisionDue := by
  simp only [frames, List.isEmpty_cons, Bool.and_false, Bool.or_false, Bool.and_eq_true, beq_iff_eq,
    Bool.not_eq_true', OwnClaim.DecisionDue, and_assoc]

theorem State.takeDecision_none {f : StoredFrame} {rest : List StoredFrame} (frames : s.rx.frames = f :: rest)
    (none : ∀ c ∈ s.claims.own, ¬ c.DecisionDue) : s.takeDecision = s := by
  have undue : s.dueClaim = Option.none := by
    rw [State.dueClaim]
    split
    · rfl
    · exact List.find?_eq_none.2 fun c held due => none c held ((State.decides_iff frames).1 due)
  rw [State.takeDecision, undue]

theorem State.takeDecision_split {f : StoredFrame} {rest : List StoredFrame} {before after : List OwnClaim}
    {c : OwnClaim} (frames : s.rx.frames = f :: rest) (running : s.inRestart = false)
    (own : s.claims.own = before ++ c :: after) (older : ∀ x ∈ before, ¬ x.DecisionDue) (due : c.DecisionDue) :
    s.takeDecision = s.decide c := by
  have found : s.dueClaim = some c := by
    rw [State.dueClaim, running, if_neg (by decide), own]
    exact find?_split
      (fun x held => Bool.eq_false_iff.2 fun holds => older x held ((State.decides_iff frames).1 holds))
      ((State.decides_iff frames).2 due)
  rw [State.takeDecision, found]

theorem exec_noticeTake {f : StoredFrame} {rest : List StoredFrame} (active : s.linkActive = true)
    (idle : s.notice.processing = none) (frames : s.rx.frames = f :: rest) :
    exec .noticeTake s = .next (s.takeDecision.processFrame f) := by
  have waiting : s.frameWaiting = some f := by
    rw [State.frameWaiting, active, idle, if_pos (by decide), frames]
    rfl
  change execNoticeTake s = _
  rw [execNoticeTake, waiting]

variable {f : StoredFrame} {sender kind : Octet} {body : List Octet}

theorem State.applyFrame_echo (echo : f.echo = true) : s.applyFrame f = s := if_pos echo

theorem State.applyFrame_read (heard : f.echo = false) (octets : f.octets = sender :: kind :: body) :
    s.applyFrame f =
      if sender.toNat < 1 ∨ 30 < sender.toNat then s.startDoubt
      else
        (if sender.toNat = s.cfg.station ∧ s.site.state.onSite = true then s.addCause .stationClash
          else s).readNotice sender.toNat (fullArrival s.now f.arrival) kind body := by
  simp only [State.applyFrame, heard, octets, Bool.false_eq_true, if_false, Bool.or_eq_true, Bool.and_eq_true,
    decide_eq_true_eq]

theorem State.readNotice_none {n : Nat} {arrival : LocalTime} (malformed : decodeNotice kind body = none) :
    s.readNotice n arrival kind body = s.startDoubt := by
  rw [State.readNotice, malformed]

theorem State.readNotice_some {n : Nat} {arrival : LocalTime} {notice : Notice}
    (decodes : decodeNotice kind body = some notice) :
    s.readNotice n arrival kind body = s.passNotice n arrival notice := by
  rw [State.readNotice, decodes]

end

/-- Settles O29: the decision that is due, then R116's checks of the frame in their order. -/
theorem framesAreTakenAndFinished : Obligations.FramesAreTakenAndFinished := by
  intro s t f rest active idle frames due decided held finished
  have running : s.inRestart = false := by
    rw [State.linkActive, Bool.and_eq_true, Bool.not_eq_true'] at active
    exact active.1
  have taken : s.takeDecision = t := by
    rcases decided with ⟨none, same⟩ | ⟨before, c, after, own, older, now, decides⟩
    · exact (State.takeDecision_none frames none).trans same.symm
    · exact (State.takeDecision_split frames running own older now).trans decides.symm
  have processed : exec .noticeTake s = .next (finished (held.applyFrame f)) := by
    rw [exec_noticeTake active idle frames, taken]
    rfl
  have cfg : held.cfg = t.cfg := rfl
  have site : held.site = t.site := rfl
  have now : held.now = t.now := rfl
  clear_value finished held
  rw [processed]
  refine ⟨fun echo => by rw [State.applyFrame_echo echo], fun sender kind body heard octets =>
    ⟨fun out => ?_, fun low high => ?_⟩⟩
  · rw [State.applyFrame_read heard octets, if_pos out]
  · have inside : ¬ (sender.toNat < 1 ∨ 30 < sender.toNat) := by omega
    rw [State.applyFrame_read heard octets, if_neg inside, cfg, site, now]
    exact ⟨fun malformed => by rw [State.readNotice_none malformed],
      fun n decodes => by rw [State.readNotice_some decodes]⟩

/-! ### The peer claim table (R77 to R80) -/

section
variable {s : State} {sender : Nat} {number : Octet}

theorem PeerEntry.keyed_iff {e : PeerEntry} : e.keyed sender number = true ↔
    e.station = sender ∧ e.number = number := by
  rw [PeerEntry.keyed, Bool.and_eq_true, beq_iff_eq, beq_iff_eq]

theorem State.peerEntry_isSome : (s.peerEntry sender number).isSome = true ↔
    ∃ e ∈ s.claims.peers, e.station = sender ∧ e.number = number := by
  simp only [State.peerEntry, List.find?_isSome, PeerEntry.keyed_iff]

theorem goodClaim_iff {precedence : Nat} {cells : List Word16} :
    goodClaim precedence (cells.map BitVec.toNat) = true ↔
      precedence ≤ 2046 ∧ 1 ≤ cells.length ∧ cells.length ≤ 16 ∧ ∀ c ∈ cells, c.toNat ≤ 16383 := by
  simp [goodClaim, and_assoc]

theorem later_setWidth (arrival : LocalTime) (hold : Word16) :
    later arrival hold.toNat = arrival + hold.setWidth 32 := by
  rw [later, BitVec.ofNat_toNat]

theorem State.takeClaim_own {arrival : LocalTime} {state : Octet} {precedence hold : Nat} {cells : List Nat}
    (own : sender = s.cfg.station) :
    s.takeClaim sender arrival number state precedence hold cells = s :=
  if_pos own

theorem State.takeClaim_good {arrival : LocalTime} {state : Octet} {precedence hold : Nat} {cells : List Nat}
    {st : ClaimState} (peer : sender ≠ s.cfg.station) (code : ClaimState.ofCode state = some st)
    (good : goodClaim precedence cells = true) :
    s.takeClaim sender arrival number state precedence hold cells =
      s.enterClaim
        { station := sender, number := number, state := st, precedence := precedence
          cells := cells, expiry := later arrival hold } := by
  rw [State.takeClaim, if_neg peer, code]
  exact if_pos good

theorem State.takeClaim_bad {arrival : LocalTime} {state : Octet} {precedence hold : Nat} {cells : List Nat}
    (peer : sender ≠ s.cfg.station)
    (bad : ClaimState.ofCode state = none ∨ goodClaim precedence cells = false) :
    s.takeClaim sender arrival number state precedence hold cells = s.startDoubt := by
  rw [State.takeClaim, if_neg peer]
  cases code : ClaimState.ofCode state with
  | none => rfl
  | some st =>
    have ranged := bad.resolve_left (by rw [code]; exact nofun)
    exact if_neg (Bool.eq_false_iff.1 ranged)

theorem State.enterClaim_fresh {e : PeerEntry} {peers : List PeerEntry} (fresh : reached s.now e.expiry = false)
    (entered : enterPeer s.now e s.claims.peers = some peers) :
    s.enterClaim e = (s.withPeers peers).reevaluate := by
  rw [State.enterClaim, fresh, if_neg (by decide), entered]

theorem State.enterClaim_full {e : PeerEntry} (fresh : reached s.now e.expiry = false)
    (full : enterPeer s.now e s.claims.peers = none) : s.enterClaim e = s.startDoubt := by
  rw [State.enterClaim, fresh, if_neg (by decide), full]

theorem State.enterClaim_expired {e : PeerEntry} (expired : reached s.now e.expiry = true) :
    s.enterClaim e = s.takeRelease e.station e.number :=
  if_pos expired

/-- An entry that stands is removed, and else nothing. -/
theorem State.takeRelease_none (absent : ∀ e ∈ s.claims.peers, ¬ (e.station = sender ∧ e.number = number)) :
    s.takeRelease sender number = s :=
  if_neg fun held => by
    obtain ⟨e, member, key⟩ := State.peerEntry_isSome.1 held
    exact absent e member key

theorem State.takeRelease_some {e : PeerEntry} (held : e ∈ s.claims.peers) (station : e.station = sender)
    (numbered : e.number = number) : s.takeRelease sender number = s.removePeer sender number :=
  if_pos (State.peerEntry_isSome.2 ⟨e, held, station, numbered⟩)

theorem WallSelect.ofCode_one {wall : Octet} (low : wall.toNat < 16) :
    WallSelect.ofCode wall = .one wall.toNat := by
  rw [WallSelect.ofCode_eq, if_neg (by omega)]

/-! ### Entries of the table (R79) -/

variable {now : LocalTime} {e : PeerEntry} {peers : List PeerEntry}

theorem any_keyed_iff : (peers.any fun x => x.keyed e.station e.number) = true ↔
    ∃ x ∈ peers, x.station = e.station ∧ x.number = e.number := by
  simp only [List.any_eq_true, PeerEntry.keyed_iff]

theorem enterPeer_same (held : ∃ x ∈ peers, x.station = e.station ∧ x.number = e.number) :
    enterPeer now e peers =
      some (peers.map fun x => if x.station = e.station ∧ x.number = e.number then e else x) := by
  rw [enterPeer, if_pos (any_keyed_iff.2 held)]
  simp only [PeerEntry.keyed_iff]

theorem enterPeer_new (absent : ∀ x ∈ peers, ¬ (x.station = e.station ∧ x.number = e.number)) :
    enterPeer now e peers =
      if 2 ≤ peers.countP fun x => x.station == e.station then some (dropOldest e.station peers ++ [e])
      else if peers.length < 48 then some (peers ++ [e])
      else if (peers.filter fun x => !reached now x.expiry).length < 48 then
        some ((peers.filter fun x => !reached now x.expiry) ++ [e])
      else none :=
  if_neg fun held => by
    obtain ⟨x, member, key⟩ := any_keyed_iff.1 held
    exact absent x member key

/-- A station's oldest entry is its first. -/
theorem dropOldest_split {station : Nat} {before after : List PeerEntry} {oldest : PeerEntry}
    (own : oldest.station = station) (older : ∀ x ∈ before, x.station ≠ station) :
    dropOldest station (before ++ oldest :: after) = before ++ after := by
  rw [dropOldest, List.eraseP_append_right _ fun x held => by simpa using older x held,
    List.eraseP_cons_of_pos (p := fun e : PeerEntry => e.station == station) (beq_iff_eq.2 own)]

end

/-- Settles O30: notices by kind and site state, and the peer table by R79's cases. -/
theorem noticesReachTheirBlocks : Obligations.NoticesReachTheirBlocks := by
  refine ⟨fun s sender arrival => ⟨fun number state precedence hold cells site => ?claim,
    fun number site => ?release, fun wall height entries => rfl, fun wall joined => ?survey,
    fun off => ⟨fun number state precedence hold cells => ?_, fun number => ?_⟩, fun off wall => ?_⟩,
    fun now e peers => ?table⟩
  case claim =>
    intro claim entry good
    have passed : s.passNotice sender arrival claim =
        s.takeClaim sender arrival number state precedence.toNat hold.toNat (cells.map BitVec.toNat) :=
      if_pos site
    rw [passed]
    refine ⟨State.takeClaim_own, fun peer => ⟨fun st code fits => ?_, fun bad => ?_⟩⟩
    · rw [State.takeClaim_good peer code (goodClaim_iff.2 fits), later_setWidth]
      refine ⟨fun fresh => ⟨fun peers => State.enterClaim_fresh fresh, State.enterClaim_full fresh⟩,
        fun expired => ?_⟩
      rw [State.enterClaim_expired (e := entry st) expired]
      exact ⟨State.takeRelease_none, fun e held station numbered =>
        State.takeRelease_some held station numbered⟩
    · exact State.takeClaim_bad peer
        (bad.imp_right fun unfit => Bool.eq_false_iff.2 fun fits => unfit (goodClaim_iff.1 fits))
  case release =>
    have passed : s.passNotice sender arrival (.release number) = s.takeRelease sender number := if_pos site
    rw [passed]
    exact ⟨State.takeRelease_none, fun e held station numbered =>
      State.takeRelease_some held station numbered⟩
  case survey =>
    have passed : s.passNotice sender arrival (.survey wall) = s.surveyed (WallSelect.ofCode wall) :=
      if_pos joined
    rw [passed]
    refine ⟨fun low defined => ?_, fun low absent => ?_, fun all => ?_⟩
    · rw [WallSelect.ofCode_one low]
      exact if_pos defined
    · rw [WallSelect.ofCode_one low]
      exact if_neg (by rw [absent]; decide)
    · subst all
      rfl
  · exact if_neg (Bool.eq_false_iff.1 off)
  · exact if_neg (Bool.eq_false_iff.1 off)
  · exact if_neg (Bool.eq_false_iff.1 off)
  case table =>
    refine ⟨enterPeer_same, fun absent => ?_⟩
    rw [enterPeer_new absent]
    refine ⟨fun third before after oldest split own older => ?_, fun few => ?_⟩
    · rw [if_pos third, split, dropOldest_split own older]
    · rw [if_neg (Nat.not_le.2 few)]
      refine ⟨fun room => if_pos room, fun full => ?_⟩
      rw [if_neg (Nat.not_lt.2 full)]
      exact ⟨fun room => if_pos room, fun live => if_neg (Nat.not_lt.2 live)⟩

end Sys2Proof.Machine

namespace Sys2Proof.Machine

/-! ### Records changed and told (R15 to R22, R31, R32) -/

section
variable {s : State} {w : Nat} {d : WallDef}

theorem SlotRecord.isSet_iff {r : SlotRecord} : r.isSet = true ↔ r.state = .set := beq_iff_eq

theorem State.recordChanged_eq (s : State) (r : SlotRecord) :
    s.recordChanged r =
      if r.state = .set ∧ r.slot.course = ((s.putRecord r).mapChanged.wall r.slot.wall).solidHeight then
        (s.putRecord r).mapChanged.checkRetirement r.slot.wall
      else (s.putRecord r).mapChanged := by
  unfold State.recordChanged State.checkSlot
  by_cases set : r.state = .set
  · simp only [SlotRecord.isSet_iff.2 set, set, true_and, if_true]
  · have wet : r.isSet = false := Bool.eq_false_iff.2 fun holds => set (SlotRecord.isSet_iff.1 holds)
    simp only [wet, set, false_and, Bool.false_eq_true, if_false]

theorem CureClass.carriesSet_iff {c : CureClass} {m : Nat} :
    c.carriesSet m = true ↔ m = 16777215 ∨ c.threshold ≤ m := by
  rw [CureClass.carriesSet, Bool.or_eq_true, beq_iff_eq, decide_eq_true_iff]
  rfl

theorem CureClass.carried_eq (c : CureClass) (m : Nat) :
    c.carried m = if m = 16777215 ∨ c.threshold ≤ m then .set else .wet (c.accum - BitVec.ofNat 32 m) :=
  if_congr CureClass.carriesSet_iff rfl rfl

/-! ### LAID notices (R15 to R18, R20) -/

theorem State.applyLaid_undefined {sender height : Nat} (undefined : (s.wall w).definition = none)
    (entries : List LaidEntry) : s.applyLaid sender w height entries = s := by
  rw [State.applyLaid, undefined]

theorem State.applyLaid_defined {sender height : Nat} (defined : (s.wall w).definition = some d)
    (entries : List LaidEntry) :
    s.applyLaid sender w height entries =
      entries.foldl (State.applyEntry w sender) (s.applyHeight w d height) := by
  rw [State.applyLaid, defined]

section
variable {sender : Nat} {e : LaidEntry} {slot : Slot}

theorem State.applyEntry_ignored (named : ({ wall := w, course := e.course.toNat, pos := e.pos.toNat } : Slot) = slot)
    (defined : (s.wall w).definition = some d)
    (out : slot.course < (s.wall w).solidHeight ∨ d.inRange slot.course slot.pos = false) :
    s.applyEntry w sender e = s := by
  subst named
  simp only [State.applyEntry, defined]
  refine if_pos ?_
  rw [Bool.or_eq_true, decide_eq_true_iff, Bool.not_eq_true']
  exact out

theorem not_out {slot : Slot} (above : (s.wall w).solidHeight ≤ slot.course)
    (ranged : d.inRange slot.course slot.pos = true) :
    ¬ (decide (slot.course < (s.wall w).solidHeight) || !d.inRange slot.course slot.pos) = true := by
  rw [Bool.or_eq_true, decide_eq_true_iff, ranged]
  simpa using above

theorem State.applyEntry_vacant (named : ({ wall := w, course := e.course.toNat, pos := e.pos.toNat } : Slot) = slot)
    (defined : (s.wall w).definition = some d) (above : (s.wall w).solidHeight ≤ slot.course)
    (ranged : d.inRange slot.course slot.pos = true) (vacant : s.recordAt slot = none) :
    s.applyEntry w sender e = s.insertPeer slot sender e.maturity.toNat := by
  subst named
  simp only [State.applyEntry, defined]
  rw [if_neg (not_out above ranged), vacant]

theorem State.applyEntry_record (named : ({ wall := w, course := e.course.toNat, pos := e.pos.toNat } : Slot) = slot)
    (defined : (s.wall w).definition = some d) (above : (s.wall w).solidHeight ≤ slot.course)
    (ranged : d.inRange slot.course slot.pos = true) {r : SlotRecord} (found : s.recordAt slot = some r) :
    s.applyEntry w sender e =
      if r.own then s.doubleLay slot (some sender) else s.mergePeer r e.maturity.toNat := by
  subst named
  simp only [State.applyEntry, defined]
  rw [if_neg (not_out above ranged), found]

theorem State.mergePeer_set {r : SlotRecord} {m : Nat} (set : r.state = .set) : s.mergePeer r m = s := by
  simp only [State.mergePeer, set]

theorem State.mergePeer_wet {r : SlotRecord} {m : Nat} {stamp : Accum} (wet : r.state = .wet stamp) :
    s.mergePeer r m =
      if (s.wallClass r.slot.wall).carriesSet m then s.recordChanged { r with state := .set }
      else if maturity (s.wallClass r.slot.wall).accum stamp < m then
        s.recordChanged { r with state := .wet ((s.wallClass r.slot.wall).stampFor m) }
      else s := by
  simp only [State.mergePeer, wet]

end
end

/-- Settles O31: the height, then each entry by what its slot holds. -/
theorem laidNoticesChangeTheMap : Obligations.LaidNoticesChangeTheMap := by
  refine ⟨fun s sender w height => ⟨State.applyLaid_undefined, fun d defined =>
    ⟨State.applyLaid_defined defined [], fun entries e => ?_, fun low => ?_, fun high => ?_⟩⟩,
    fun s w sender d e defined => ?entry⟩
  · rw [State.applyLaid_defined defined, State.applyLaid_defined defined, List.foldl_append]
    rfl
  · exact if_neg (Nat.not_lt.2 low)
  · exact if_pos high
  case entry =>
    intro slot m c carried changed
    have wallClass : s.wallClass slot.wall = c := State.wallClass_of_definition defined
    have carries : c.carried m = carried := c.carried_eq m
    have changes (r : SlotRecord) (here : r.slot = slot) : s.recordChanged r = changed r := by
      rw [State.recordChanged_eq, here]
      rfl
    refine ⟨State.applyEntry_ignored rfl defined, fun above ranged => ⟨fun vacant => ⟨fun room => ?_, fun full => ?_⟩,
      fun r found => ?_⟩⟩
    · rw [State.applyEntry_vacant rfl defined above ranged vacant]
      exact (if_pos room).trans ((changes _ rfl).trans (by rw [wallClass, carries]))
    · have drops : s.applyEntry w sender e = s.dropInsert w :=
        (State.applyEntry_vacant rfl defined above ranged vacant).trans (if_neg (Nat.not_lt.2 full))
      rw [drops]
      exact ⟨fun gap => if_pos gap, fun whole => if_neg (Bool.eq_false_iff.1 whole)⟩
    · have here : r.slot = slot := State.recordAt_slot found
      rw [State.applyEntry_record rfl defined above ranged found]
      refine ⟨fun own => if_pos own, fun peer => ?_⟩
      rw [if_neg (Bool.eq_false_iff.1 peer)]
      refine ⟨State.mergePeer_set, fun stamp wet => ?_⟩
      have classOf : s.wallClass r.slot.wall = c := by rw [here, wallClass]
      rw [State.mergePeer_wet wet, classOf]
      by_cases sets : c.carriesSet m = true
      · have set : carried = .set := carries.symm.trans (if_pos sets)
        rw [if_pos sets]
        exact ⟨fun _ => by rw [set]; exact changes { r with state := .set } here, fun other => absurd set other⟩
      · have stays : carried = .wet (c.stampFor m) := carries.symm.trans (if_neg sets)
        rw [if_neg sets]
        refine ⟨fun rises => ?_, fun _ least => if_neg (Nat.not_lt.2 least)⟩
        have more : maturity c.accum stamp < m := rises.resolve_left (by rw [stays]; exact nofun)
        rw [if_pos more, stays]
        exact changes { r with state := .wet (c.stampFor m) } here

/-! ### The cure tick (R28 to R31) -/

theorem increment_some (t datum : Int) :
    increment (some t) datum = if t ≤ datum then 0 else min 240 (t - datum).toNat := by
  rw [increment]
  split
  next cold => rw [Int.toNat_of_nonpos (by omega)]; rfl
  next => rfl

theorem CureClass.advance_none (c : CureClass) :
    CureClass.advance none c = { c with accum := c.accum + BitVec.ofNat 32 0 } := rfl

theorem CureClass.advance_some (c : CureClass) (t : Int) :
    CureClass.advance (some t) c =
      { c with accum := c.accum + BitVec.ofNat 32 (if t ≤ c.datum then 0 else min 240 (t - c.datum).toNat) } := by
  rw [CureClass.advance, increment_some]

/-- Settles O32: the tick that is due waits for a walk alone. -/
theorem cureTicksAccumulate : Obligations.CureTicksAccumulate := by
  intro s due active set late
  have step : exec .cureTick s = .next (if s.tickReady then s.cureTick else s) := rfl
  have reachedDue : reachedSome s.now s.cure.tickDue = true := by rw [set]; exact late
  refine ⟨fun calm => ?_, fun r intake walks => ?_⟩
  · have still : s.walking = false := by
      rw [State.walking, Option.any_eq_false]
      exact fun r held => calm r held
    have ready : s.tickReady = true := by rw [State.tickReady, active, reachedDue, still]; rfl
    rw [step, if_pos ready, State.cureTick, CureUnit.advance, set]
    cases ambient : s.monitor.ambient with
    | none => rfl
    | some t =>
      simp only [funext fun c => CureClass.advance_some c t]
      rfl
  · have walking : s.walking = true := by rw [State.walking, intake]; exact walks
    rw [step, if_neg]
    rw [State.tickReady, walking, Bool.not_true, Bool.and_false]
    decide

/-! ### Walks and retirement (R19, R25, R31, R32) -/

section
variable {s : State} {w : Nat} {d : WallDef}

theorem State.wetSlots_eq (s : State) :
    s.wetSlots = (s.map.records.filter fun r => r.state != .set).map SlotRecord.slot := rfl

theorem State.slotOfClass_eq (s : State) (k : Nat) (slot : Slot) :
    s.slotOfClass k slot = (s.wall slot.wall).definition.any fun d => d.cls == k := by
  unfold State.slotOfClass
  cases (s.wall slot.wall).definition <;> rfl

theorem State.courseIsSet_iff {h : Nat} : s.courseIsSet w d h = true ↔
    ∀ p, p < d.slotCount h → ∃ r, s.recordAt { wall := w, course := h, pos := p } = some r ∧ r.state = .set := by
  rw [State.courseIsSet, List.all_eq_true]
  refine forall_congr' fun p => ?_
  rw [List.mem_range]
  refine imp_congr_right fun _ => ?_
  cases found : s.recordAt { wall := w, course := h, pos := p } with
  | none => simp
  | some r => simp [SlotRecord.isSet_iff]

theorem State.walkSlot_vacant {slot : Slot} (vacant : s.recordAt slot = none) : s.walkSlot slot = s := by
  simp only [State.walkSlot, vacant]

theorem State.walkSlot_set {slot : Slot} {r : SlotRecord} (found : s.recordAt slot = some r)
    (set : r.state = .set) : s.walkSlot slot = s := by
  simp only [State.walkSlot, found, set]

theorem State.walkSlot_wet {slot : Slot} {r : SlotRecord} {stamp : Accum} (found : s.recordAt slot = some r)
    (wet : r.state = .wet stamp) (defined : (s.wall slot.wall).definition = some d) :
    s.walkSlot slot =
      if (s.cureClass d.cls).threshold ≤ ((s.cureClass d.cls).accum - stamp).toNat then
        s.recordChanged { r with state := .set }
      else s := by
  simp only [State.walkSlot, found, wet, State.wallClass_of_definition defined]
  rfl

/-! A retirement check makes at most one pass a course, so that passes beyond those change nothing. -/

theorem State.retire_undefined (k : Nat) (undefined : (s.wall w).definition = none) : State.retire w k s = s := by
  cases k with
  | zero => rfl
  | succ k => rw [State.retire, undefined]

theorem State.retire_succ (k : Nat) (defined : (s.wall w).definition = some d) :
    State.retire w (k + 1) s =
      if (s.wall w).solidHeight ≤ d.top && s.courseIsSet w d (s.wall w).solidHeight then
        State.retire w k (s.raiseHeight w ((s.wall w).solidHeight + 1)).mapChanged
      else s := by
  simp only [State.retire, defined]

/-- The place of a wall whose lowest course has retired. -/
theorem State.wall_retired {h : Nat} (defined : (s.wall w).definition = some d) :
    ((s.raiseHeight w h).mapChanged.wall w).definition = some d
      ∧ ((s.raiseHeight w h).mapChanged.wall w).solidHeight = h := by
  have walls : (s.raiseHeight w h).mapChanged.walls = (s.raiseHeight w h).walls :=
    State.mapChanged_cascade _ .walls (by decide)
  have inside : w < s.walls.length := State.lt_of_defined (by rw [defined]; rfl)
  have wall : (s.raiseHeight w h).mapChanged.wall w = (s.raiseHeight w h).wall w := by
    rw [State.wall, walls, State.wall]
  rw [wall, State.wall_raiseHeight, if_pos ⟨rfl, inside⟩]
  exact ⟨defined, rfl⟩

/-- A pass more changes nothing where the passes reach the top course. -/
theorem State.retire_enough (k : Nat) (defined : (s.wall w).definition = some d)
    (enough : d.top < (s.wall w).solidHeight + k) : State.retire w (k + 1) s = State.retire w k s := by
  induction k generalizing s with
  | zero =>
    rw [State.retire_succ 0 defined, if_neg, State.retire]
    rw [Bool.and_eq_true, decide_eq_true_iff]
    omega
  | succ k ih =>
    rw [State.retire_succ (k + 1) defined, State.retire_succ k defined]
    split
    next =>
      obtain ⟨same, height⟩ := State.wall_retired (h := (s.wall w).solidHeight + 1) defined
      exact ih same (by rw [height]; omega)
    next => rfl

end

/-- Settles O33: walks by `State.walkSlot`, and retirement by its passes. -/
theorem walksTurnRecordsSet : Obligations.WalksTurnRecordsSet := by
  refine ⟨fun s => ⟨⟨?_, fun k => ?_⟩, fun slot => ⟨State.walkSlot_vacant, fun r found =>
    ⟨State.walkSlot_set found, fun stamp d wet defined => ⟨fun early => ?_, fun ripe => ?_⟩⟩⟩⟩,
    fun s w => ⟨State.retire_undefined 65, fun d defined low => ⟨fun stays => ?_, fun retires => ?_⟩⟩⟩
  · rfl
  · rw [State.conversionWalk, State.wetSlots_eq]
    congr 2
    exact funext fun slot => s.slotOfClass_eq k slot
  · rw [State.walkSlot_wet found wet defined, if_neg (Nat.not_le.2 early)]
  · have here : r.slot = slot := State.recordAt_slot found
    rw [State.walkSlot_wet found wet defined, if_pos ripe, State.recordChanged_eq]
    simp only [here, true_and]
    rfl
  · rw [State.checkRetirement, State.retire_succ 64 defined]
    refine if_neg fun holds => stays ?_
    rw [Bool.and_eq_true, decide_eq_true_iff, State.courseIsSet_iff] at holds
    exact holds
  · have passes : ((s.wall w).solidHeight ≤ d.top && s.courseIsSet w d (s.wall w).solidHeight) = true := by
      rw [Bool.and_eq_true, decide_eq_true_iff, State.courseIsSet_iff]
      exact retires
    obtain ⟨same, height⟩ := State.wall_retired (h := (s.wall w).solidHeight + 1) defined
    rw [State.checkRetirement, State.retire_succ 64 defined, if_pos passes,
      ← State.retire_enough 64 same (by rw [height]; omega)]
    rfl

end Sys2Proof.Machine

namespace Sys2Proof.Machine

/-! ### Measures against their levels (R144 to R147) -/

section
variable {s : State}

theorem atOrAbove_iff {value : Option Nat} {level : Nat} :
    atOrAbove value level = true ↔ ∃ v, value = some v ∧ level ≤ v := by
  cases value <;> simp [atOrAbove]

theorem isBelow_iff {value : Option Nat} {level : Nat} :
    isBelow value level = true ↔ ∃ v, value = some v ∧ v < level := by
  cases value <;> simp [isBelow]

theorem Monitor.halts_iff {m : Monitor} : m.halts = true ↔
    (∃ v, m.gust = some v ∧ m.limits.gustHaltOn ≤ v) ∨ (∃ v, m.inclineX = some v ∧ m.limits.inclineOn ≤ v)
      ∨ (∃ v, m.inclineY = some v ∧ m.limits.inclineOn ≤ v) ∨ (∃ v, m.strain = some v ∧ m.limits.strainOn ≤ v)
      ∨ m.inclineX = none ∨ m.inclineY = none ∨ m.strain = none := by
  simp only [Monitor.halts, Bool.or_eq_true, atOrAbove_iff, Option.isNone_iff_eq_none, or_assoc]

theorem Monitor.leavesHalt_iff {m : Monitor} : m.leavesHalt = true ↔
    (∃ v, m.gust = some v ∧ v < m.limits.gustHaltOff) ∧ (∃ v, m.inclineX = some v ∧ v < m.limits.inclineOff)
      ∧ (∃ v, m.inclineY = some v ∧ v < m.limits.inclineOff) ∧ ∃ v, m.strain = some v ∧ v < m.limits.strainOff := by
  simp only [Monitor.leavesHalt, Bool.and_eq_true, isBelow_iff, and_assoc]

theorem Monitor.pauses_iff {m : Monitor} : m.pauses = true ↔
    (∃ v, m.gust = some v ∧ m.limits.gustPauseOn ≤ v) ∨ m.ambient = none := by
  simp only [Monitor.pauses, Bool.or_eq_true, atOrAbove_iff, Option.isNone_iff_eq_none]

theorem Monitor.calms_iff {m : Monitor} : m.calms = true ↔
    (∃ v, m.gust = some v ∧ v < m.limits.gustPauseOff) ∧ m.ambient ≠ none := by
  simp only [Monitor.calms, Bool.and_eq_true, isBelow_iff, Option.isSome_iff_ne_none]

/-! ### An evaluation by the stability state -/

theorem State.evaluateStability_halts (halts : s.monitor.halts = true) :
    s.evaluateStability = (s.withDwell none).setStability .halted :=
  if_pos halts

theorem State.evaluateStability_halted (steady : ¬ s.monitor.halts = true) (state : s.monitor.state = .halted) :
    s.evaluateStability =
      if s.monitor.leavesHalt then (s.withDwell s.newDwell).setStability .paused else s := by
  rw [State.evaluateStability, if_neg steady, state]

theorem State.evaluateStability_calm (steady : ¬ s.monitor.halts = true) (state : s.monitor.state = .calm) :
    s.evaluateStability = if s.monitor.pauses then s.setStability .paused else s := by
  rw [State.evaluateStability, if_neg steady, state]

theorem State.evaluateStability_paused (steady : ¬ s.monitor.halts = true) (state : s.monitor.state = .paused) :
    s.evaluateStability =
      if s.monitor.calms && s.dwellAfter.isNone then (s.withDwell s.dwellAfter).setStability .calm
      else s.withDwell s.dwellAfter := by
  rw [State.evaluateStability, if_neg steady, state]

theorem State.dwellAfter_over (ended : ∀ due, s.monitor.dwellDue = some due → reached s.now due = true) :
    s.dwellAfter = none := by
  rw [State.dwellAfter]
  cases dwell : s.monitor.dwellDue with
  | none => exact ite_self _
  | some due => exact if_pos (ended due dwell)

theorem State.dwellAfter_running {due : LocalTime} (dwell : s.monitor.dwellDue = some due)
    (early : reached s.now due = false) : s.dwellAfter = some due := by
  rw [State.dwellAfter, dwell]
  exact if_neg (Bool.eq_false_iff.1 early)

theorem State.withDwell_self {due : Option LocalTime} (same : s.monitor.dwellDue = due) :
    s.withDwell due = s := by
  rw [State.withDwell, ← same]

/-! ### Causes put in and taken out (R151, R155, R157) -/

variable {c : Cause}

theorem State.causeJoins_present (present : s.stop.causes.has c = true) : s.causeJoins c = s := if_pos present

theorem State.causeLeaves_absent (absent : s.stop.causes.has c = false) : s.causeLeaves c = s :=
  if_neg (Bool.eq_false_iff.1 absent)

theorem State.causeLeaves_present (present : s.stop.causes.has c = true) :
    s.causeLeaves c =
      ({ s with
          stop :=
            { s.stop with
              causes := s.stop.causes.assign c false
              conflictStation := if c = .claimConflict then none else s.stop.conflictStation } }
        : State).oweStop :=
  if_pos present

theorem State.causeJoins_latched (absent : s.stop.causes.has c = false) (latch : s.stop.latch = true) :
    s.causeJoins c =
      ({ s with
          stop :=
            { s.stop with
              causes := s.stop.causes.assign c true
              seen := if c ∈ s.stop.seen then s.stop.seen else s.stop.seen ++ [c] } } : State).oweStop := by
  have joined : s.stop.join c =
      { s.stop with
        causes := s.stop.causes.assign c true
        seen := if c ∈ s.stop.seen then s.stop.seen else s.stop.seen ++ [c] } := by
    rw [StopControl.join, latch, if_pos rfl, if_pos rfl]
    simp only [List.contains_iff_mem, latch]
  rw [State.causeJoins, absent, if_neg (by decide), joined]
  exact if_pos latch

theorem State.causeJoins_released (absent : s.stop.causes.has c = false) (latch : s.stop.latch = false) :
    s.causeJoins c =
      (({ s with
          stop :=
            { s.stop with
              causes := s.stop.causes.assign c true, latch := true
              first := some (.cause c), seen := [c] } } : State).oweStop).suspendMotion := by
  have joined : s.stop.join c =
      { s.stop with
        causes := s.stop.causes.assign c true, latch := true
        first := some (.cause c), seen := [c] } := by
    rw [StopControl.join, latch, if_neg (by decide), if_neg (by decide)]
  rw [State.causeJoins, absent, if_neg (by decide), joined]
  exact if_neg (by rw [latch]; decide)

/-- A placement is announced. -/
def State.HasAnnounced (s : State) : Prop :=
  ∃ p ∈ s.admission.queue, p.state = .announcing ∨ p.state = .tentative

theorem State.HasAnnounced.suspendMotion_iff : s.suspendMotion.HasAnnounced ↔ s.HasAnnounced := by
  simp only [State.HasAnnounced, State.suspendMotion_admission, List.mem_map]
  refine ⟨?_, fun ⟨p, held, state⟩ => ⟨_, ⟨p, held, rfl⟩, state⟩⟩
  rintro ⟨_, ⟨p, held, rfl⟩, state⟩
  exact ⟨p, held, state⟩

/-- A cause that joins leaves the placements' states. -/
theorem State.HasAnnounced.causeJoins_iff : (s.causeJoins c).HasAnnounced ↔ s.HasAnnounced := by
  cases present : s.stop.causes.has c with
  | true => rw [State.causeJoins_present present]
  | false =>
    cases latch : s.stop.latch with
    | true => rw [State.causeJoins_latched present latch]; exact Iff.rfl
    | false =>
      rw [State.causeJoins_released present latch, State.HasAnnounced.suspendMotion_iff]
      exact Iff.rfl

theorem State.HasAnnounced.causeLeaves_iff : (s.causeLeaves c).HasAnnounced ↔ s.HasAnnounced := by
  have admission : (s.causeLeaves c).admission = s.admission := s.causeLeaves_frame c .admission (by decide)
  rw [State.HasAnnounced, admission, State.HasAnnounced]

theorem State.HasAnnounced.stabilityCause_iff {new : Stability} :
    (s.stabilityCause new).HasAnnounced ↔ s.HasAnnounced := by
  unfold State.stabilityCause
  split
  · exact State.HasAnnounced.causeJoins_iff
  · exact State.HasAnnounced.causeLeaves_iff

theorem State.addCause_present (present : s.stop.causes.has c = true) : s.addCause c = s := if_pos present

theorem State.addCause_absent (absent : s.stop.causes.has c = false) :
    s.addCause c = (s.causeJoins c).gateLost :=
  if_neg (Bool.eq_false_iff.1 absent)

end

/-- Settles O34: an evaluation by state and levels, causes by presence and latch. -/
theorem stabilityIsEvaluated : Obligations.StabilityIsEvaluated := by
  refine ⟨fun s => ?evaluates, fun s new => ⟨fun same => if_pos same, fun other => ?moves⟩,
    fun s c => ⟨State.causeJoins_present, fun absent => ⟨State.causeLeaves_absent absent,
      State.causeJoins_latched absent, State.causeJoins_released absent⟩, State.causeLeaves_present⟩,
    fun s c => ⟨fun present => ⟨State.addCause_present present, if_pos present⟩,
      fun absent => ⟨if_neg (Bool.eq_false_iff.1 absent), fun announced => ?_, fun calm => ?_⟩⟩,
    fun now timer => ?_⟩
  case evaluates =>
    intro m l ending atLeast below halts leaves pauses calms
    refine ⟨fun holds => State.evaluateStability_halts (Monitor.halts_iff.2 holds), fun steady => ?_⟩
    have steady : ¬ s.monitor.halts = true := fun holds => steady (Monitor.halts_iff.1 holds)
    refine ⟨fun state => ?_, fun state => ?_, fun state => ⟨fun ended => ?_, fun due dwell early => ?_⟩⟩
    · rw [State.evaluateStability_halted steady state]
      exact ⟨fun holds => if_pos (Monitor.leavesHalt_iff.2 holds),
        fun fails => if_neg fun holds => fails (Monitor.leavesHalt_iff.1 holds)⟩
    · rw [State.evaluateStability_calm steady state]
      exact ⟨fun holds => if_pos (Monitor.pauses_iff.2 holds),
        fun fails => if_neg fun holds => fails (Monitor.pauses_iff.1 holds)⟩
    · rw [State.evaluateStability_paused steady state, State.dwellAfter_over ended, Option.isNone_none,
        Bool.and_true]
      exact ⟨fun holds => if_pos (Monitor.calms_iff.2 holds),
        fun fails => if_neg fun holds => fails (Monitor.calms_iff.1 holds)⟩
    · rw [State.evaluateStability_paused steady state, State.dwellAfter_running dwell early,
        Option.isNone_some, Bool.and_false, if_neg (by decide), State.withDwell_self dwell]
  case moves =>
    intro written moved announced
    have same : moved.HasAnnounced ↔ announced := State.HasAnnounced.stabilityCause_iff (s := written)
    have sets : s.setStability new =
        if s.monitor.state = .calm ∨ new = .halted then moved.gateLost else moved.evalHead := by
      rw [State.setStability, if_neg other]
      exact if_congr (by rw [Bool.or_eq_true, decide_eq_true_iff, decide_eq_true_iff]) rfl rfl
    rw [sets]
    refine ⟨fun lost holds => ?_, fun kept => ?_⟩
    · rw [if_pos lost, State.gateLost_announced (same.2 holds)]
    · split
      next lost => exact State.gateLost_none fun holds => kept ⟨lost, same.1 holds⟩
      next => rfl
  · rw [State.addCause_absent absent, State.gateLost_announced (State.HasAnnounced.causeJoins_iff.2 announced)]
  · rw [State.addCause_absent absent,
      State.gateLost_none fun holds => calm (State.HasAnnounced.causeJoins_iff.1 holds)]
  · cases timer <;> rfl

end Sys2Proof.Machine

namespace Sys2Proof.Machine

/-! ### Conversions (R135, R136) -/

section
variable {s : State} {code : BitVec 10}

theorem exec_conversionComplete {channel : Nat} (running : s.inRestart = false)
    (scan : s.monitor.scan = some channel) :
    exec (.conversionComplete code) s = .next (s.convert channel code.toNat) := by
  change execConversionComplete code s = _
  simp only [execConversionComplete, running, scan, Bool.false_eq_true, if_false]

/-! ### Runs of WIND samples (R139, R140) -/

variable {m : Monitor} {high : Bool}

/-- The filter's level, count of differing samples and count of rising edges as given. -/
def Monitor.withWind (m : Monitor) (level : Bool) (differ count : Nat) : Monitor :=
  { m with windLevel := some level, windDiffer := differ, windCount := count }

theorem Monitor.sampleWind_first (first : m.windLevel = none) :
    m.sampleWind high = m.withWind high 0 m.windCount := by
  rw [Monitor.sampleWind, first]
  rfl

theorem Monitor.sampleWind_agrees (level : m.windLevel = some high) :
    m.sampleWind high = m.withWind high 0 m.windCount := by
  rw [Monitor.sampleWind, level]
  simp only [if_true]
  rw [Monitor.withWind, ← level]

theorem Monitor.sampleWind_counts (level : m.windLevel = some !high)
    (early : m.windDiffer + 1 < m.limits.windFilter + 1) :
    m.sampleWind high = m.withWind (!high) (m.windDiffer + 1) m.windCount := by
  rw [Monitor.sampleWind, level]
  simp only
  rw [if_neg (by cases high <;> decide), if_neg (Nat.not_le.2 early), Monitor.withWind, ← level]

theorem Monitor.sampleWind_changes (level : m.windLevel = some !high)
    (late : m.limits.windFilter + 1 ≤ m.windDiffer + 1) :
    m.sampleWind high = m.withWind high 0 (m.windCount + high.toNat) := by
  rw [Monitor.sampleWind, level]
  simp only
  rw [if_neg (by cases high <;> decide), if_pos late]
  rfl

theorem Monitor.sampleRun_agrees (n : Nat) (level : m.windLevel = some high) :
    Monitor.sampleRun high (n + 1) m = m.withWind high 0 m.windCount := by
  induction n generalizing m with
  | zero => exact Monitor.sampleWind_agrees level
  | succ n ih =>
    rw [Monitor.sampleRun, Monitor.sampleWind_agrees level, ih (m := m.withWind high 0 m.windCount) rfl]
    rfl

/-- A run that settles the level leaves it so. -/
theorem Monitor.sampleRun_settles {count : Nat} (n : Nat)
    (settles : m.sampleWind high = m.withWind high 0 count) :
    Monitor.sampleRun high (n + 1) m = m.withWind high 0 count := by
  cases n with
  | zero => exact settles
  | succ n =>
    rw [Monitor.sampleRun, settles, Monitor.sampleRun_agrees (m := m.withWind high 0 count) n rfl]
    rfl

theorem Monitor.sampleRun_counts (n : Nat) (level : m.windLevel = some !high)
    (early : m.windDiffer + n < m.limits.windFilter + 1) :
    Monitor.sampleRun high n m = m.withWind (!high) (m.windDiffer + n) m.windCount := by
  induction n generalizing m with
  | zero => rw [Monitor.sampleRun, Monitor.withWind, ← level]; rfl
  | succ n ih =>
    have sooner : m.windDiffer + 1 + n < m.limits.windFilter + 1 := by omega
    rw [Monitor.sampleRun, Monitor.sampleWind_counts level (by omega),
      ih (m := m.withWind (!high) (m.windDiffer + 1) m.windCount) rfl sooner, Nat.add_comm n 1, ← Nat.add_assoc]
    rfl

/-- A run that brings the count past the filter time changes the level. -/
theorem Monitor.sampleRun_changes (n : Nat) (level : m.windLevel = some !high)
    (late : m.limits.windFilter + 1 ≤ m.windDiffer + (n + 1)) :
    Monitor.sampleRun high (n + 1) m = m.withWind high 0 (m.windCount + high.toNat) := by
  induction n generalizing m with
  | zero => exact Monitor.sampleWind_changes level late
  | succ n ih =>
    by_cases now : m.limits.windFilter + 1 ≤ m.windDiffer + 1
    · exact Monitor.sampleRun_settles (n + 1) (Monitor.sampleWind_changes level now)
    · have sooner : m.limits.windFilter + 1 ≤ m.windDiffer + 1 + (n + 1) := by omega
      rw [Monitor.sampleRun, Monitor.sampleWind_counts level (Nat.not_le.1 now),
        ih (m := m.withWind (!high) (m.windDiffer + 1) m.windCount) rfl sooner]
      rfl

theorem exec_windRisingEdge (active : s.linkActive = true) (n : Nat) :
    exec (.windRisingEdge n) s = .next { s with monitor := s.monitor.sampleRun true n } := by
  change execWindRisingEdge n s = _
  rw [execWindRisingEdge, State.hearWind, if_pos active]

theorem exec_windFallingEdge (active : s.linkActive = true) (n : Nat) :
    exec (.windFallingEdge n) s = .next { s with monitor := s.monitor.sampleRun false n } := by
  change execWindFallingEdge n s = _
  rw [execWindFallingEdge, State.hearWind, if_pos active]

theorem exec_windWindowEnd {due : LocalTime} (active : s.linkActive = true)
    (set : s.monitor.windowDue = some due) (late : reached s.now due = true) :
    exec .windWindowEnd s = .next { s with monitor := s.monitor.endWindow } := by
  have ready : s.windReady = true := by rw [State.windReady, active, set]; exact late
  change execWindWindowEnd s = _
  rw [execWindWindowEnd, if_pos ready]

/-! ### Rings (R27, R136, R138) -/

variable {r : Ring}

theorem Ring.codes_none (invalid : r.a = none ∨ r.b = none ∨ r.c = none ∨ r.d = none) : r.codes = none := by
  obtain ⟨a, b, c, d⟩ := r
  rcases invalid with rfl | rfl | rfl | rfl
  · rfl
  · cases a <;> rfl
  · cases a <;> cases b <;> rfl
  · cases a <;> cases b <;> cases c <;> rfl

theorem Ring.codes_some {a b c d : Nat} (ha : r.a = some a) (hb : r.b = some b) (hc : r.c = some c)
    (hd : r.d = some d) : r.codes = some [a, b, c, d] := by
  rw [Ring.codes, ha, hb, hc, hd]

theorem Ring.temperature_none (invalid : r.codes = none) : r.temperature = none := by
  rw [Ring.temperature, invalid]

theorem Ring.temperature_some {l : List Nat} (codes : r.codes = some l) :
    r.temperature =
      if ∃ x ∈ l, x = 0 ∨ x = 1023 then none else some (((l.sum / 4 / 2 : Nat) : Int) - 200) := by
  rw [Ring.temperature, codes]
  exact if_congr (by simp [List.any_eq_true]) rfl rfl

theorem sum_four (a b c d : Nat) : [a, b, c, d].sum = a + b + c + d := by
  simp [Nat.add_assoc]

theorem deviation_eq (mean : Nat) : ((deviation mean : Nat) : Int) = |(mean : Int) - 512| := by
  rw [deviation]
  split
  next low => rw [abs_of_nonpos (by omega)]; omega
  next high => rw [abs_of_nonneg (by omega)]; omega

end

/-- Settles O35: runs of WIND samples by their count, the rest by each conversion and each window. -/
theorem sensorSamplesAreGathered : Obligations.SensorSamplesAreGathered := by
  refine ⟨fun s code running => ?scan, ⟨fun s n active some => ?wind, fun s due active set late => ?window⟩,
    fun r => ⟨fun invalid => ?_, fun a b c d ha hb hc hd => ?ring⟩, deviation_eq⟩
  case scan =>
    intro pushed
    refine ⟨fun scan => exec_conversionComplete running scan, fun scan => exec_conversionComplete running scan,
      fun scan => exec_conversionComplete running scan, fun scan => ⟨fun site => ?_, fun off => ?_⟩⟩
    · exact (exec_conversionComplete running scan).trans (congrArg _ (if_pos site))
    · exact (exec_conversionComplete running scan).trans (congrArg _ (if_neg (Bool.eq_false_iff.1 off)))
  case wind =>
    obtain ⟨n, rfl⟩ := Nat.exists_eq_succ_of_ne_zero (Nat.one_le_iff_ne_zero.1 some)
    intro m heard
    have hears (level : Bool) (differ count : Nat) :
        ({ s with monitor := s.monitor.withWind level differ count } : State) = heard level differ count := rfl
    clear_value heard
    rw [exec_windRisingEdge active, exec_windFallingEdge active]
    refine ⟨fun first => ⟨?_, ?_⟩, fun level => ⟨?_, fun early => ?_, fun late => ?_⟩,
      fun level => ⟨?_, fun early => ?_, fun late => ?_⟩⟩
    · rw [Monitor.sampleRun_settles n (Monitor.sampleWind_first first), hears]
    · rw [Monitor.sampleRun_settles n (Monitor.sampleWind_first first), hears]
    · rw [Monitor.sampleRun_agrees n level, hears]
    · rw [Monitor.sampleRun_counts (high := false) (n + 1) level early, ← hears]
      rfl
    · rw [Monitor.sampleRun_changes (high := false) n level late, hears]
      rfl
    · rw [Monitor.sampleRun_agrees n level, hears]
    · rw [Monitor.sampleRun_counts (high := true) (n + 1) level early, ← hears]
      rfl
    · rw [Monitor.sampleRun_changes (high := true) n level late, hears]
      rfl
  case window =>
    intro speed ended
    rw [exec_windWindowEnd active set late]
    have ends (gusts : List Nat) (joined : joinGusts s.monitor.gusts speed = gusts) :
        ({ s with monitor := s.monitor.endWindow } : State) = ended gusts := by
      subst joined
      rw [Monitor.endWindow, set]
      rfl
    refine ⟨fun few => ?_, fun oldest gusts full long => ?_⟩
    · rw [ends (s.monitor.gusts ++ [speed])]
      rw [joinGusts, Nat.sub_eq_zero_of_le (by omega), List.drop_zero]
    · rw [ends (gusts ++ [speed])]
      rw [joinGusts, full, List.length_cons, long]
      rfl
  · have codes := Ring.codes_none invalid
    exact ⟨by rw [Ring.mean, codes]; rfl, Ring.temperature_none codes⟩
  case ring =>
    have codes := Ring.codes_some ha hb hc hd
    rw [Ring.mean, codes, Ring.temperature_some codes, sum_four]
    refine ⟨by rw [Option.map_some, sum_four], fun bad => if_pos bad, fun good => if_neg ?_⟩
    rintro ⟨x, held, zero | top⟩
    · exact (good x held).1 zero
    · exact (good x held).2 top

end Sys2Proof.Machine

namespace Sys2Proof.Machine

/-! ### Seat points between those of the extreme slots (R4, R8) -/

section
variable {d : WallDef} {halfModule courseHeight edge course pos : Nat}

/-- How far a slot's seat point lies along its wall. -/
def WallDef.seatOffset (d : WallDef) (halfModule course pos : Nat) : Nat :=
  ((d.span course pos).1 + (d.span course pos).2) * halfModule / 2

/-- The plan of the point that lies so far along a wall. -/
def WallDef.along (d : WallDef) (offset : Nat) : Int × Int :=
  match d.direction with
  | .plusX => (d.x0 + offset, d.y0)
  | .minusX => (d.x0 - offset, d.y0)
  | .plusY => (d.x0, d.y0 + offset)
  | .minusY => (d.x0, d.y0 - offset)

/-- The height of a course's seat points. -/
def WallDef.seatHeight (d : WallDef) (courseHeight course : Nat) : Int :=
  d.z0 + (course * courseHeight + courseHeight / 2 : Nat)

/-- A plan lies inside the grid. -/
def InPlan (edge : Nat) (p : Int × Int) : Prop :=
  0 ≤ p.1 ∧ p.1 < 32 * edge ∧ 0 ≤ p.2 ∧ p.2 < 32 * edge

theorem WallDef.seatPoint_eq : d.seatPoint halfModule courseHeight course pos =
    { x := (d.along (d.seatOffset halfModule course pos)).1
      y := (d.along (d.seatOffset halfModule course pos)).2
      z := d.seatHeight courseHeight course } := by
  unfold WallDef.seatPoint WallDef.along
  cases d.direction <;> rfl

theorem WallDef.seatPoint_inGrid_iff :
    (d.seatPoint halfModule courseHeight course pos).inGrid edge = true ↔
      InPlan edge (d.along (d.seatOffset halfModule course pos))
        ∧ 0 ≤ d.seatHeight courseHeight course ∧ d.seatHeight courseHeight course < 16 * edge := by
  rw [WallDef.seatPoint_eq]
  simp only [Point.inGrid, InPlan, Bool.and_eq_true, decide_eq_true_eq, and_assoc]

/-- A point between two of a wall inside the grid lies inside. -/
theorem WallDef.inPlan_between {lo hi offset : Nat} (low : InPlan edge (d.along lo))
    (high : InPlan edge (d.along hi)) (above : lo ≤ offset) (below : offset ≤ hi) :
    InPlan edge (d.along offset) := by
  unfold InPlan WallDef.along at *
  cases direction : d.direction <;> rw [direction] at low high <;> simp only at low high ⊢ <;> omega

theorem WallDef.seatHeight_mono {lower upper : Nat} (le : lower ≤ upper) :
    d.seatHeight courseHeight lower ≤ d.seatHeight courseHeight upper := by
  have rises := Nat.mul_le_mul_right courseHeight le
  unfold WallDef.seatHeight
  omega

/-- Courses laid alike have the same spans. -/
theorem WallDef.span_congr {other : Nat} (alike : d.staggered other = d.staggered course) :
    d.span other pos = d.span course pos := by
  rw [WallDef.span, WallDef.span, alike]

theorem WallDef.slotCount_congr {other : Nat} (alike : d.staggered other = d.staggered course) :
    d.slotCount other = d.slotCount course := by
  rw [WallDef.slotCount, WallDef.slotCount, alike]

/-- The middle of a slot moves on with its position. -/
theorem WallDef.span_sum_mono (even : d.length % 2 = 0) (long : 4 ≤ d.length) {later : Nat}
    (le : pos ≤ later) (inside : later < d.slotCount course) :
    (d.span course pos).1 + (d.span course pos).2 ≤ (d.span course later).1 + (d.span course later).2 := by
  cases staggered : d.staggered course with
  | true =>
    rw [WallDef.slotCount_of_staggered staggered] at inside
    rw [WallDef.span_of_staggered staggered even long (by omega),
      WallDef.span_of_staggered staggered even long (by omega)]
    dsimp only
    omega
  | false =>
    rw [WallDef.span_of_not_staggered staggered, WallDef.span_of_not_staggered staggered]
    dsimp only
    omega

theorem WallDef.seatOffset_mono (even : d.length % 2 = 0) (long : 4 ≤ d.length) {later : Nat}
    (le : pos ≤ later) (inside : later < d.slotCount course) :
    d.seatOffset halfModule course pos ≤ d.seatOffset halfModule course later :=
  Nat.div_le_div_right (Nat.mul_le_mul_right _ (WallDef.span_sum_mono even long le inside))

theorem WallDef.slotCount_pos (long : 4 ≤ d.length) : 0 < d.slotCount course := by
  unfold WallDef.slotCount
  split <;> omega

/-! ### The grid check -/

theorem WallDef.gridCheck_iff : d.gridCheck halfModule courseHeight edge = true ↔
    ∀ c ∈ d.testedCourses, (d.seatPoint halfModule courseHeight c 0).inGrid edge = true
      ∧ (d.seatPoint halfModule courseHeight c (d.slotCount c - 1)).inGrid edge = true := by
  simp [WallDef.gridCheck]

theorem WallDef.testedCourses_le {c : Nat} (tested : c ∈ d.testedCourses) : c ≤ d.top := by
  unfold WallDef.testedCourses at tested
  split at tested
  next some =>
    rw [Bool.and_eq_true, decide_eq_true_iff] at some
    simp only [List.mem_cons, List.not_mem_nil, or_false] at tested
    omega
  next =>
    simp only [List.mem_cons, List.not_mem_nil, or_false] at tested
    omega

theorem WallDef.zero_tested : 0 ∈ d.testedCourses := by
  unfold WallDef.testedCourses
  split <;> simp

theorem WallDef.top_tested : d.top ∈ d.testedCourses := by
  unfold WallDef.testedCourses
  split <;> simp

/-- A course laid as any given one is tested: 0 for whole bricks, 1 for a staggered one. -/
theorem WallDef.alike_tested (inside : course ≤ d.top) :
    ∃ c ∈ d.testedCourses, d.staggered c = d.staggered course := by
  cases staggered : d.staggered course with
  | true =>
    obtain ⟨running, odd⟩ := WallDef.staggered_iff.1 staggered
    refine ⟨1, ?_, WallDef.staggered_iff.2 ⟨running, rfl⟩⟩
    have tall : 1 ≤ d.top := by omega
    rw [WallDef.testedCourses, running, if_pos (by simpa using tall)]
    simp
  | false => exact ⟨0, WallDef.zero_tested, WallDef.not_staggered_iff.2 (.inr rfl)⟩

/-- The extreme slots bound every other: along the wall by a course laid alike, in height by 0 and the top. -/
theorem WallDef.inGrid_of_gridCheck (even : d.length % 2 = 0) (long : 4 ≤ d.length)
    (checked : d.gridCheck halfModule courseHeight edge = true) (inside : d.inRange course pos = true) :
    (d.seatPoint halfModule courseHeight course pos).inGrid edge = true := by
  rw [WallDef.gridCheck_iff] at checked
  obtain ⟨low, fits⟩ := WallDef.inRange_iff.1 inside
  obtain ⟨c, tested, alike⟩ := WallDef.alike_tested low
  have offsets (p : Nat) : d.seatOffset halfModule c p = d.seatOffset halfModule course p := by
    rw [WallDef.seatOffset, WallDef.span_congr alike, WallDef.seatOffset]
  have first := (WallDef.seatPoint_inGrid_iff.1 (checked c tested).1).1
  have last := (WallDef.seatPoint_inGrid_iff.1 (checked c tested).2).1
  rw [offsets, WallDef.slotCount_congr alike] at last
  rw [offsets] at first
  have bottom := (WallDef.seatPoint_inGrid_iff.1 (checked 0 WallDef.zero_tested).1).2.1
  have top := (WallDef.seatPoint_inGrid_iff.1 (checked d.top WallDef.top_tested).1).2.2
  refine WallDef.seatPoint_inGrid_iff.2 ⟨WallDef.inPlan_between first last ?_ ?_, ?_, ?_⟩
  · exact WallDef.seatOffset_mono even long (Nat.zero_le _) fits
  · exact WallDef.seatOffset_mono even long (by omega) (by omega)
  · exact bottom.trans (WallDef.seatHeight_mono (Nat.zero_le _))
  · exact (WallDef.seatHeight_mono low).trans_lt top

/-- A coordinate inside the grid divides into one of its cells. -/
theorem tdiv_bounds {x : Int} {n : Nat} (some : 1 ≤ edge) (least : 0 ≤ x) (most : x < n * edge) :
    0 ≤ x.tdiv edge ∧ x.tdiv edge < n := by
  rw [Int.tdiv_eq_ediv_of_nonneg least]
  exact ⟨Int.ediv_nonneg least (by omega), Int.ediv_lt_of_lt_mul (by omega) most⟩

theorem Point.cell_of_inGrid {p : Point} (some : 1 ≤ edge) (inside : p.inGrid edge = true) :
    0 ≤ p.cell edge ∧ p.cell edge ≤ 16383 := by
  simp only [Point.inGrid, Bool.and_eq_true, decide_eq_true_eq, and_assoc] at inside
  obtain ⟨x0, x1, y0, y1, z0, z1⟩ := inside
  have x := tdiv_bounds (n := 32) some x0 x1
  have y := tdiv_bounds (n := 32) some y0 y1
  have z := tdiv_bounds (n := 16) some z0 z1
  unfold Point.cell
  omega

end

/-- Settles O44: seat points move monotonically along a course and up the wall. -/
theorem gridCheckCoversEverySlot : Obligations.GridCheckCoversEverySlot := by
  intro d c even long some
  refine ⟨⟨fun checked course pos inside => WallDef.inGrid_of_gridCheck even long checked inside,
      fun every => WallDef.gridCheck_iff.2 fun course tested => ?_⟩,
    fun checked course pos inside =>
      Point.cell_of_inGrid some (WallDef.inGrid_of_gridCheck even long checked inside)⟩
  have low := WallDef.testedCourses_le tested
  have slots := WallDef.slotCount_pos (d := d) (course := course) long
  exact ⟨every course 0 (WallDef.inRange_iff.2 ⟨low, slots⟩),
    every course _ (WallDef.inRange_iff.2 ⟨low, by omega⟩)⟩

end Sys2Proof.Machine

namespace Sys2Proof.Machine

/-! ### The current frame through the judgement of the fill -/

section
variable {s t : State}

theorem State.serveOwed_current (s : State) : s.serveOwed.tx.current = s.tx.current := by
  have offered (l : List OwnClaim) (t : State) : (l.foldl State.offerUrgent t).tx.current = t.tx.current := by
    induction l generalizing t with
    | nil => rfl
    | cons c l ih =>
      rw [List.foldl_cons, ih, State.offerUrgent]
      split <;> rfl
  exact offered _ _

theorem State.requestAnnounce_current (s : State) (n : Octet) :
    (s.requestAnnounce n).tx.current = s.tx.current := by
  unfold State.requestAnnounce
  split
  · rfl
  · dsimp only
    split
    · split
      · exact s.serveOwed_current
      · exact s.serveOwed_current
    · rfl

theorem State.refreshContested_current (s : State) : s.refreshContested.tx.current = s.tx.current := by
  have requested (l : List Octet) (t : State) :
      (l.foldl State.requestAnnounce t).tx.current = t.tx.current := by
    induction l generalizing t with
    | nil => rfl
    | cons n l ih => rw [List.foldl_cons, ih, State.requestAnnounce_current]
  exact requested _ _

/-- An evaluation of the head leaves the frame being sent. -/
theorem State.evalHead_current (s : State) : s.evalHead.tx.current = s.tx.current := by
  unfold State.evalHead
  split
  · refine State.evalHeads_keeps (P := fun t => t.tx.current = s.tx.current) ?fails ?supports ?waits ?announces
      _ s rfl
    case fails => exact fun t i p r _ _ _ kept => kept
    case supports => exact fun t i p slot _ _ _ kept => kept
    case waits => exact fun t i p r station _ _ _ kept => kept
    case announces =>
      intro t i p _ _ _ kept
      rw [State.refreshContested_current]
      exact t.serveOwed_current.trans kept
  · rfl

theorem State.judgeLag_current (s : State) : s.judgeLag.tx.current = s.tx.current := by
  unfold State.judgeLag State.judgeLagAt
  dsimp only
  split
  · rfl
  · rw [State.evalHead_current]; rfl

theorem State.judgeLag_phase (s : State) : s.judgeLag.rx.phase = s.rx.phase := by
  unfold State.judgeLag State.judgeLagAt
  dsimp only
  split
  · rfl
  · rw [State.evalHead_cascade _ .rx (by decide)]
    rfl

theorem CurrentKept.none (kept : CurrentKept s t) (ended : s.tx.current = none) : t.tx.current = none := by
  cases current : t.tx.current with
  | none => rfl
  | some g =>
    obtain ⟨f, held, -⟩ := kept g current
    rw [ended] at held
    cases held

theorem State.txen_none (ended : s.tx.current = none) : s.txen = false := by
  rw [State.txen, ended]

theorem State.txen_sending {f : CurrentFrame} (current : s.tx.current = some f) (sending : f.phase = .sending) :
    s.txen = true := by
  rw [State.txen, current, beq_iff_eq]
  exact sending

theorem State.sentFrame_silent (silent : s.txen = false) : s.sentFrame = none := by
  cases current : s.tx.current with
  | none => rw [State.sentFrame, current, Option.filter_none, ite_self]
  | some f =>
    refine State.sentFrame_other current fun sending => ?_
    rw [State.txen_sending current sending] at silent
    cases silent

/-- TXEN is released by a collision (R107). -/
theorem State.collide_silent (s : State) (f : CurrentFrame) : (s.collide f).txen = false := by
  have cut : s.cutOff.tx.current = Option.none := rfl
  by_cases tenth : 10 ≤ f.collisions + 1
  · rw [State.collide_drops tenth]
    exact State.txen_none ((State.frameDropped_currentKept _ f).none cut)
  · cases final : s.noRetry f with
    | true =>
      rw [State.collide_discards (Nat.not_le.1 tenth) final]
      exact State.txen_none ((State.frameDiscarded_currentKept _ f).none cut)
    | false =>
      rw [State.collide_backs_off (Nat.not_le.1 tenth) final]
      rfl

end

/-! ### A frame heard octet by octet (R95, R97, R106) -/

/-- The first elements of a list with one more. -/
theorem prefix_snoc_iff {α : Type} {heard l : List α} {x o : α} (before : heard <+: l)
    (next : l[heard.length]? = some x) : heard ++ [o] <+: l ↔ o = x := by
  obtain ⟨rest, rfl⟩ := before
  rw [List.getElem?_append_right (Nat.le_refl _), Nat.sub_self] at next
  obtain ⟨y, rest, rfl⟩ := List.exists_cons_of_ne_nil (fun none : rest = [] => by rw [none] at next; cases next)
  have same : y = x := by simpa using next
  rw [List.prefix_append_right_inj, List.cons_prefix_cons, same]
  exact ⟨fun both => both.1, fun one => ⟨one, List.nil_prefix⟩⟩

/-- `t` has heard these octets of a frame since `s`, its receiver in the phase `P` of the echo mark `echo`;
the frame `f`, sent from its delimiter if `own`, is still going out where all it has heard is its own, and
TXEN is released where it is not. -/
structure Hearing (s : State) (own : Bool) (f : CurrentFrame) (heard : List Octet) (echo : Bool)
    (P : Bool → RxPhase) (t : State) : Prop where
  active : t.linkActive = true
  now : t.now = s.now
  frames : t.rx.frames = s.rx.frames
  phase : t.rx.phase = P echo
  sends : echo = true → own = true ∧
    t.tx.current = some { f with sent := heard.length } ∧ f.phase = .sending ∧ heard <+: f.octets
  silent : echo = false → t.txen = false ∧ (own = true → ¬ heard <+: f.octets)

namespace Hearing

variable {s t : State} {own echo : Bool} {f : CurrentFrame} {heard : List Octet} {P Q : Bool → RxPhase}

theorem withIdle (h : Hearing s own f heard echo P t) (n : Nat) :
    Hearing s own f heard echo P (t.withIdle n) :=
  ⟨h.active, h.now, h.frames, h.phase, h.sends, h.silent⟩

theorem withPhase (h : Hearing s own f heard echo P t) : Hearing s own f heard echo Q (t.withPhase (Q echo)) :=
  ⟨h.active, h.now, h.frames, rfl, h.sends, h.silent⟩

theorem judgeLag (h : Hearing s own f heard echo P t) : Hearing s own f heard echo P t.judgeLag := by
  have frame : Frame [.rx, .port, .admission, .claims, .tx] t t.judgeLag := t.judgeLagAt_frame _
  have now : t.judgeLag.now = t.now := frame .now (by decide)
  have supply : t.judgeLag.supply = t.supply := frame .supply (by decide)
  have site : t.judgeLag.site = t.site := frame .site (by decide)
  refine ⟨?_, now.trans h.now, (t.judgeLagAt_frames _).trans h.frames, t.judgeLag_phase.trans h.phase,
    fun yes => ?_, fun no => ?_⟩
  · rw [State.linkActive, State.inRestart, supply, site]
    exact h.active
  · rw [State.judgeLag_current]
    exact h.sends yes
  · rw [State.txen, State.judgeLag_current]
    exact h.silent no

theorem txen_eq (h : Hearing s own f heard echo P t) : t.txen = echo := by
  cases echo with
  | true =>
    obtain ⟨-, current, sending, -⟩ := h.sends rfl
    exact State.txen_sending current sending
  | false => exact (h.silent rfl).1

/-- An octet compared: the frame goes on where it is its next, and collides where it is another. -/
theorem compare (h : Hearing s own f heard echo P t) (breaks : ∀ e, (P e).loseEcho = P false) (o : Octet)
    (longer : heard <+: f.octets → heard.length < f.octets.length) :
    ∃ echo, Hearing s own f (heard ++ [o]) echo P (t.compareOctet fun x => x == o) := by
  cases echo with
  | false =>
    obtain ⟨silent, other⟩ := h.silent rfl
    rw [State.compareOctet_idle _ (State.sentFrame_silent silent)]
    exact ⟨false, h.active, h.now, h.frames, h.phase, nofun, fun _ => ⟨silent, fun mine prefixed =>
      other mine ((List.prefix_append heard [o]).trans prefixed)⟩⟩
  | true =>
    obtain ⟨mine, current, sending, before⟩ := h.sends rfl
    have bound := longer before
    have next : f.octets[heard.length]? = some f.octets[heard.length] := List.getElem?_eq_getElem bound
    have sent := State.sentFrame_sending h.active current sending
    have compared := State.compareOctet_some (fun x => x == o) sent next
    by_cases same : f.octets[heard.length] = o
    · rw [compared, if_pos (beq_iff_eq.2 same)]
      refine ⟨true, h.active, h.now, h.frames, h.phase, fun _ => ⟨mine, ?_, sending, ?_⟩, nofun⟩
      · rw [List.length_append]
        rfl
      · exact (prefix_snoc_iff before next).2 same.symm
    · have collides : (t.compareOctet fun x => x == o) = t.collide { f with sent := heard.length } := by
        rw [compared, if_neg (by rw [beq_iff_eq]; exact same)]
      have frame := t.collide_frame { f with sent := heard.length }
      have rx : (t.collide { f with sent := heard.length }).rx = t.breakEcho.rx := frame .rx (by decide)
      have now : (t.collide { f with sent := heard.length }).now = t.now := frame .now (by decide)
      have supply : (t.collide { f with sent := heard.length }).supply = t.supply := frame .supply (by decide)
      have site : (t.collide { f with sent := heard.length }).site = t.site := frame .site (by decide)
      rw [collides]
      refine ⟨false, ?_, now.trans h.now, ?_, ?_, nofun, fun _ => ⟨t.collide_silent _, fun _ prefixed => ?_⟩⟩
      · rw [State.linkActive, State.inRestart, supply, site]
        exact h.active
      · rw [rx]
        exact h.frames
      · rw [rx]
        change t.rx.phase.loseEcho = _
        rw [h.phase, breaks]
      · exact same ((prefix_snoc_iff before next).1 prefixed).symm

/-- What an octet does once it has been compared. -/
theorem octet (h : Hearing s own f heard echo P t) (breaks : ∀ e, (P e).loseEcho = P false) (o : Octet)
    (longer : heard <+: f.octets → heard.length < f.octets.length) :
    ∃ echo m, Hearing s own f (heard ++ [o]) echo P m
      ∧ exec (.octetReceived o true) t = .next (m.hearOctet o true) := by
  obtain ⟨echo, met⟩ := h.compare breaks o longer
  exact ⟨echo, _, met.withIdle (idleRun o true), exec_octetReceived_met h.active o⟩

theorem fill (h : Hearing s own f heard echo P t) :
    t.rx.fill = (s.rx.frames.map StoredFrame.size).sum + (P echo).written := by
  rw [Receiver.fill, h.frames, h.phase]

end Hearing

/-- Where the frame going out has run as far as one being heard, it has more octets. -/
def Longer (all : List Octet) (f : CurrentFrame) : Prop :=
  ∀ part o, part ++ [o] <+: all → part <+: f.octets → part.length < f.octets.length

/-- The phase of a body being received. -/
def bodyPhase (length : Octet) (octets : List Octet) (echo : Bool) : RxPhase :=
  .body { length := length, octets := octets, echo := echo }

/-- The phase of a CRC being received. -/
def checkPhase (length : Octet) (octets : List Octet) (first : Option Octet) (echo : Bool) : RxPhase :=
  .check { length := length, octets := octets, echo := echo } first

theorem State.hears_cons {s t : State} {o : Octet} {rest : List Octet}
    (next : exec (.octetReceived o true) s = .next t) : s.hears (o :: rest) = t.hears rest := by
  rw [State.hears, next]

section
variable {s t : State} {own echo : Bool} {f : CurrentFrame} {heard all : List Octet} {n : Octet}

theorem Hearing.delimiter (h : Hearing s own f [] echo (fun _ => .hunt) t) (longer : Longer all f)
    (part : [0x96] <+: all) (room : (s.rx.frames.map StoredFrame.size).sum + 4 ≤ 2048) :
    ∃ echo m, Hearing s own f [0x96] echo .length m ∧ exec (.octetReceived 0x96 true) t = .next m := by
  obtain ⟨echo, m, met, next⟩ := h.octet (fun _ => rfl) 0x96 (longer [] 0x96 part)
  refine ⟨echo, _, (met.withPhase (Q := .length)).judgeLag, ?_⟩
  rw [next, State.hearOctet_hunt met.phase, State.huntOctet_room (by rw [met.fill]; exact room), met.txen_eq]

theorem Hearing.lengthOctet (h : Hearing s own f heard echo .length t) (longer : Longer all f) (o : Octet)
    (part : heard ++ [o] <+: all) (least : 3 ≤ o.toNat) (most : o.toNat ≤ 80) :
    ∃ echo m, Hearing s own f (heard ++ [o]) echo (bodyPhase o []) m
      ∧ exec (.octetReceived o true) t = .next m := by
  obtain ⟨echo, m, met, next⟩ := h.octet (fun _ => rfl) o (longer heard o part)
  refine ⟨echo, _, met.withPhase (Q := bodyPhase o []), ?_⟩
  rw [next, State.hearOctet_length met.phase, State.lengthOctet_in least most]
  rfl

theorem Hearing.bodyOctet {done : List Octet} (h : Hearing s own f heard echo (bodyPhase n done) t)
    (longer : Longer all f) (o : Octet) (part : heard ++ [o] <+: all)
    (room : (s.rx.frames.map StoredFrame.size).sum + 4 + n.toNat ≤ 2048) (more : done.length + 1 < n.toNat) :
    ∃ echo m, Hearing s own f (heard ++ [o]) echo (bodyPhase n (done ++ [o])) m
      ∧ exec (.octetReceived o true) t = .next m := by
  obtain ⟨echo, m, met, next⟩ := h.octet (fun _ => rfl) o (longer heard o part)
  refine ⟨echo, _, (met.withPhase (Q := bodyPhase n (done ++ [o]))).judgeLag, ?_⟩
  have fill : m.rx.fill = (s.rx.frames.map StoredFrame.size).sum + (4 + done.length) := met.fill
  rw [next, State.hearOctet_body met.phase, State.bodyOctet_more (by omega) more]
  rfl

theorem Hearing.lastOctet {done : List Octet} (h : Hearing s own f heard echo (bodyPhase n done) t)
    (longer : Longer all f) (o : Octet) (part : heard ++ [o] <+: all)
    (room : (s.rx.frames.map StoredFrame.size).sum + 4 + n.toNat ≤ 2048) (last : done.length + 1 = n.toNat) :
    ∃ echo m, Hearing s own f (heard ++ [o]) echo (checkPhase n (done ++ [o]) none) m
      ∧ exec (.octetReceived o true) t = .next m := by
  obtain ⟨echo, m, met, next⟩ := h.octet (fun _ => rfl) o (longer heard o part)
  refine ⟨echo, _, (met.withPhase (Q := checkPhase n (done ++ [o]) none)).judgeLag, ?_⟩
  have fill : m.rx.fill = (s.rx.frames.map StoredFrame.size).sum + (4 + done.length) := met.fill
  rw [next, State.hearOctet_body met.phase, State.bodyOctet_last (by omega) (Nat.le_of_eq last.symm)]
  rfl

theorem Hearing.firstCrc {octets : List Octet} (h : Hearing s own f heard echo (checkPhase n octets none) t)
    (longer : Longer all f) (o : Octet) (part : heard ++ [o] <+: all) :
    ∃ echo m, Hearing s own f (heard ++ [o]) echo (checkPhase n octets (some o)) m
      ∧ exec (.octetReceived o true) t = .next m := by
  obtain ⟨echo, m, met, next⟩ := h.octet (fun _ => rfl) o (longer heard o part)
  refine ⟨echo, _, met.withPhase (Q := checkPhase n octets (some o)), ?_⟩
  rw [next, State.hearOctet_check met.phase]
  rfl

theorem Hearing.secondCrc {octets : List Octet} {hi : Octet}
    (h : Hearing s own f heard echo (checkPhase n octets (some hi)) t) (longer : Longer all f) (o : Octet)
    (part : heard ++ [o] <+: all) (sound : crc (n :: octets) = hi ++ o) :
    ∃ echo m, Hearing s own f (heard ++ [o]) echo (checkPhase n octets (some hi)) m
      ∧ exec (.octetReceived o true) t =
        .next (m.arrive { length := n, octets := octets, echo := echo }) := by
  obtain ⟨echo, m, met, next⟩ := h.octet (fun _ => rfl) o (longer heard o part)
  refine ⟨echo, m, met, ?_⟩
  rw [next, State.hearOctet_check met.phase,
    State.checkOctet_matches (f := { length := n, octets := octets, echo := echo }) sound]

/-- The octets of a body, one after another. -/
theorem Hearing.body {rest done : List Octet} (h : Hearing s own f heard echo (bodyPhase n done) t)
    (longer : Longer all f) (part : heard ++ rest <+: all) (some : rest ≠ [])
    (room : (s.rx.frames.map StoredFrame.size).sum + 4 + n.toNat ≤ 2048)
    (count : done.length + rest.length = n.toNat) (tail : List Octet) :
    ∃ echo m, Hearing s own f (heard ++ rest) echo (checkPhase n (done ++ rest) none) m
      ∧ t.hears (rest ++ tail) = m.hears tail := by
  induction rest generalizing t heard done echo with
  | nil => exact absurd rfl some
  | cons o rest ih =>
    have one : heard ++ [o] <+: all := List.IsPrefix.trans
      ((List.prefix_append_right_inj heard).2 (List.cons_prefix_cons.2 ⟨rfl, List.nil_prefix⟩)) part
    rw [List.length_cons] at count
    cases rest with
    | nil =>
      obtain ⟨echo, m, hearing, next⟩ := h.lastOctet longer o one room count
      exact ⟨echo, m, hearing, State.hears_cons next⟩
    | cons p rest =>
      rw [List.length_cons] at count
      obtain ⟨echo, m, hearing, next⟩ := h.bodyOctet longer o one room (by omega)
      obtain ⟨echo, u, heardAll, rests⟩ := ih hearing (by rwa [List.append_assoc]) (List.cons_ne_nil _ _)
        (by simp only [List.length_append, List.length_cons, List.length_nil]; omega)
      rw [List.append_assoc, List.append_assoc] at heardAll
      exact ⟨echo, u, heardAll, (State.hears_cons next).trans rests⟩

end

/-! ### Frames that differ (R188, R189) -/

theorem frameOctets_length (payload : List Octet) : (frameOctets payload).length = payload.length + 4 := by
  simp [frameOctets, octets16]

theorem length_octet {payload : List Octet} (short : payload.length ≤ 80) :
    (BitVec.ofNat 8 payload.length).toNat = payload.length := count_of_le (by omega)

/-- A part of two frames that holds their length octet shows them to be of one length. -/
theorem length_eq_of_common {a b part : List Octet} (shortA : a.length ≤ 80) (shortB : b.length ≤ 80)
    (long : 2 ≤ part.length) (inA : part <+: frameOctets a) (inB : part <+: frameOctets b) :
    a.length = b.length := by
  obtain ⟨x, y, rest, rfl⟩ : ∃ x y rest, part = x :: y :: rest := by
    match part, long with
    | x :: y :: rest, _ => exact ⟨x, y, rest, rfl⟩
  rw [frameOctets, List.cons_prefix_cons, List.cons_prefix_cons] at inA inB
  have same := congrArg BitVec.toNat (inA.2.1.symm.trans inB.2.1)
  rwa [length_octet shortA, length_octet shortB] at same

theorem frameOctets_prefix {a b : List Octet} (shortA : a.length ≤ 80) (shortB : b.length ≤ 80)
    (before : frameOctets a <+: frameOctets b) : a = b := by
  have length := length_eq_of_common shortA shortB (by rw [frameOctets_length]; omega)
    (List.prefix_refl _) before
  have same := before.eq_of_length (by rw [frameOctets_length, frameOctets_length, length])
  rw [frameOctets, frameOctets, List.cons.injEq, List.cons.injEq] at same
  exact (List.append_inj same.2.2 length).1

/-- A frame of another station runs beyond every part that the two share. -/
theorem longer_of_frameOctets {own payload : List Octet} {f : CurrentFrame} (octets : f.octets = frameOctets own)
    (shortO : own.length ≤ 80) (shortP : payload.length ≤ 80) : Longer (frameOctets payload) f := by
  intro part o inP inO
  rw [octets] at inO ⊢
  have bound := inP.length_le
  rw [List.length_append, List.length_singleton, frameOctets_length] at bound
  rw [frameOctets_length]
  by_cases long : 2 ≤ part.length
  · have length := length_eq_of_common shortO shortP long inO ((List.prefix_append part [o]).trans inP)
    omega
  · omega

/-- The octets of a frame before the last are a part of it. -/
theorem frame_parts {a b c : List Octet} {o : Octet} (split : a ++ o :: b = c) : a ++ [o] <+: c :=
  ⟨b, by rw [← split, List.append_assoc]; rfl⟩

/-- A whole frame is heard: it is stored, with the echo mark of what the station was sending. -/
theorem Hearing.frame {s : State} {own echo : Bool} {f : CurrentFrame} {payload : List Octet}
    (h : Hearing s own f [] echo (fun _ => .hunt) s) (longer : Longer (frameOctets payload) f)
    (least : 3 ≤ payload.length) (most : payload.length ≤ 80)
    (room : (s.rx.frames.map StoredFrame.size).sum + 4 + payload.length ≤ 2048) :
    ∃ echo m first, Hearing s own f (frameOctets payload) echo
        (checkPhase (BitVec.ofNat 8 payload.length) payload first) m
      ∧ s.hears (frameOctets payload) =
        some (m.arrive { length := BitVec.ofNat 8 payload.length, octets := payload, echo := echo }) := by
  have length := length_octet most
  have octets : frameOctets payload = [0x96, BitVec.ofNat 8 payload.length] ++ payload
      ++ [(frameCrc payload).extractLsb' 8 8, (frameCrc payload).extractLsb' 0 8] := by
    rw [List.append_assoc]; rfl
  have sound : crc (BitVec.ofNat 8 payload.length :: payload)
      = (frameCrc payload).extractLsb' 8 8 ++ (frameCrc payload).extractLsb' 0 8 :=
    (word16_octets16 (frameCrc payload)).symm
  generalize BitVec.ofNat 8 payload.length = n at length octets sound ⊢
  generalize (frameCrc payload).extractLsb' 8 8 = hi at octets sound
  generalize (frameCrc payload).extractLsb' 0 8 = lo at octets sound
  obtain ⟨e1, t1, h1, next1⟩ := h.delimiter longer (frame_parts (a := []) octets.symm) (by omega)
  obtain ⟨e2, t2, h2, next2⟩ := h1.lengthOctet longer n (frame_parts (a := [0x96]) octets.symm)
    (by omega) (by omega)
  obtain ⟨e3, t3, h3, next3⟩ := h2.body (rest := payload) longer ⟨_, octets.symm⟩
    (fun none => by rw [none] at least; exact absurd least (by decide)) (by omega)
    (by rw [length]; exact Nat.zero_add _) [hi, lo]
  obtain ⟨e4, t4, h4, next4⟩ := h3.firstCrc longer hi (frame_parts octets.symm)
  obtain ⟨e5, t5, h5, next5⟩ := h4.secondCrc longer lo
    ⟨[], by rw [octets, List.append_nil, List.append_assoc]; rfl⟩ sound
  refine ⟨e5, t5, some hi, ?_, ?_⟩
  · have whole : [0x96] ++ [n] ++ payload ++ [hi] ++ [lo] = frameOctets payload := by
      rw [octets, List.append_assoc _ [hi]]; rfl
    rw [← whole]
    exact h5
  · rw [octets]
    calc s.hears ([0x96, n] ++ payload ++ [hi, lo])
        = t1.hears (n :: (payload ++ [hi, lo])) := State.hears_cons next1
      _ = t2.hears (payload ++ [hi, lo]) := State.hears_cons next2
      _ = t3.hears [hi, lo] := next3
      _ = t4.hears [lo] := State.hears_cons next4
      _ = _ := State.hears_cons next5

/-! ### The bit that decides (R189) -/

theorem octetLevels_inj {o x : Octet} (same : octetLevels o true = octetLevels x true) : o = x := by
  have beq := octetLevels_beq o x
  rw [same, beq_self_eq_true] at beq
  exact (beq_iff_eq.1 beq.symm).symm

theorem frameLevels_cons (o : Octet) (l : List Octet) :
    frameLevels (o :: l) = octetLevels o true ++ frameLevels l := rfl

/-- Levels of octets begin levels of octets only where the octets begin the octets. -/
theorem prefix_of_frameLevels {x y : List Octet} (before : frameLevels x <+: frameLevels y) : x <+: y := by
  induction x generalizing y with
  | nil => exact List.nil_prefix
  | cons o x ih =>
    cases y with
    | nil =>
      have short := before.length_le
      rw [frameLevels_cons, List.length_append] at short
      exact absurd short (by simp [frameLevels, octetLevels])
    | cons p y =>
      obtain ⟨rest, split⟩ := before
      rw [frameLevels_cons, frameLevels_cons, List.append_assoc] at split
      obtain ⟨first, others⟩ := List.append_inj split rfl
      exact List.cons_prefix_cons.2 ⟨octetLevels_inj first, ih ⟨rest, others⟩⟩

/-- Two runs of levels of which neither begins the other part at a first level. -/
theorem levels_part {a b : List Bool} (notA : ¬ a <+: b) (notB : ¬ b <+: a) :
    ∃ same restA restB bit, a = same ++ bit :: restA ∧ b = same ++ (!bit) :: restB := by
  induction a generalizing b with
  | nil => exact absurd List.nil_prefix notA
  | cons x a ih =>
    cases b with
    | nil => exact absurd List.nil_prefix notB
    | cons y b =>
      by_cases same : x = y
      · subst same
        rw [List.cons_prefix_cons, not_and] at notA notB
        obtain ⟨part, restA, restB, bit, splitA, splitB⟩ := ih (notA rfl) (notB rfl)
        exact ⟨x :: part, restA, restB, bit, by rw [splitA]; rfl, by rw [splitB]; rfl⟩
      · exact ⟨[], a, b, x, rfl, by rw [Bool.eq_not.2 (Ne.symm same)]; rfl⟩

theorem keepsLine_part (same restA restB : List Bool) (bit : Bool) :
    keepsLine (same ++ bit :: restA) (same ++ (!bit) :: restB) = !bit := by
  induction same with
  | nil => exact if_neg (by cases bit <;> decide)
  | cons x same ih => exact (if_pos rfl).trans ih

/-- Settles O40: the receiver's phases octet by octet, and the first bit in which two frames differ. -/
theorem framesCrossTheLink : Obligations.FramesCrossTheLink := by
  refine ⟨fun s payload active hunt least most room => ?crosses,
    fun a b leastA mostA leastB mostB other => ?decides, fun restA restB => rfl⟩
  case crosses =>
    intro crossed
    have space : (s.rx.frames.map StoredFrame.size).sum + 4 + payload.length ≤ 2048 := by
      rw [Receiver.fill, hunt] at room
      exact room
    have crosses {own echo : Bool} {f : CurrentFrame} {first : Option Octet} {m : State}
        (h : Hearing s own f (frameOctets payload) echo
          (checkPhase (BitVec.ofNat 8 payload.length) payload first) m)
        (heard : s.hears (frameOctets payload) =
          some (m.arrive { length := BitVec.ofNat 8 payload.length, octets := payload, echo := echo })) :
        crossed (m.arrive { length := BitVec.ofNat 8 payload.length, octets := payload, echo := echo }) echo := by
      refine ⟨heard, ?_, rfl⟩
      rw [← h.now, ← h.frames]
      rfl
    refine ⟨fun silent => ?_, fun f own current sending unsent octets leastO mostO => ⟨fun same => ?_, fun differs => ?_⟩⟩
    · have start (f : CurrentFrame) : Hearing s false f [] false (fun _ => .hunt) s :=
        ⟨active, rfl, rfl, hunt, nofun, fun _ => ⟨silent, nofun⟩⟩
      have longer := longer_of_frameOctets (f := ⟨.release 0, frameOctets payload, 0, 0, .waiting, false⟩) rfl most most
      obtain ⟨echo, m, first, hearing, heard⟩ := (start _).frame longer least most space
      cases echo with
      | true => exact absurd (hearing.sends rfl).1 (by decide)
      | false => exact ⟨_, crosses hearing heard⟩
    all_goals
      have start : Hearing s true f [] true (fun _ => .hunt) s :=
        ⟨active, rfl, rfl, hunt, fun _ => ⟨rfl, by rw [current, List.length_nil, ← unsent], sending,
          List.nil_prefix⟩, nofun⟩
      obtain ⟨echo, m, first, hearing, heard⟩ :=
        start.frame (longer_of_frameOctets octets mostO most) least most space
    · subst same
      cases echo with
      | true =>
        have sent := (hearing.sends rfl).2.1
        rw [← octets] at sent
        exact ⟨_, crosses hearing heard, sent⟩
      | false => exact absurd (by rw [octets]) ((hearing.silent rfl).2 rfl)
    · cases echo with
      | true =>
        have before := (hearing.sends rfl).2.2.2
        rw [octets] at before
        exact absurd (frameOctets_prefix most mostO before).symm differs
      | false => exact ⟨_, crosses hearing heard, (hearing.silent rfl).1⟩
  case decides =>
    obtain ⟨same, restA, restB, bit, splitA, splitB⟩ := levels_part
      (fun before => other (frameOctets_prefix mostA mostB (prefix_of_frameLevels before)))
      (fun before => other (frameOctets_prefix mostB mostA (prefix_of_frameLevels before)).symm)
    refine ⟨same, restA, restB, bit, splitA, splitB, ?_, ?_⟩
    · rw [splitA, splitB, keepsLine_part]
    · rw [splitA, splitB]
      have kept := keepsLine_part same restB restA (!bit)
      rwa [Bool.not_not] at kept

end Sys2Proof.Machine

namespace Sys2Proof.Machine

/-! ### Octets, words and flags (R185, R188) -/

theorem extract_octet (w n k : Nat) (inside : k + 8 ≤ w) :
    (BitVec.ofNat w n).extractLsb' k 8 = BitVec.ofNat 8 (n / 2 ^ k) := by
  apply BitVec.eq_of_toNat_eq
  rw [BitVec.extractLsb'_toNat, BitVec.toNat_ofNat, BitVec.toNat_ofNat, Nat.shiftRight_eq_div_pow]
  obtain ⟨m, rfl⟩ := Nat.exists_eq_add_of_le inside
  have split : 2 ^ (k + 8 + m) = 2 ^ k * (2 ^ 8 * 2 ^ m) := by ring
  rw [split, Nat.mod_mul_right_div_self, Nat.mod_mul_right_mod]

theorem octets16_ofNat (n : Nat) :
    octets16 (BitVec.ofNat 16 n) = [BitVec.ofNat 8 (n / 256), BitVec.ofNat 8 n] := by
  rw [octets16, extract_octet 16 n 8 (by decide), extract_octet 16 n 0 (by decide), Nat.pow_zero, Nat.div_one]
  rfl

theorem octets16_toNat (w : Word16) :
    octets16 w = [BitVec.ofNat 8 (w.toNat / 256), BitVec.ofNat 8 w.toNat] := by
  rw [← octets16_ofNat, BitVec.ofNat_toNat, BitVec.setWidth_eq]

theorem octets24_ofNat (n : Nat) :
    octets24 (BitVec.ofNat 24 n)
      = [BitVec.ofNat 8 (n / 65536), BitVec.ofNat 8 (n / 256), BitVec.ofNat 8 n] := by
  rw [octets24, extract_octet 24 n 16 (by decide), extract_octet 24 n 8 (by decide),
    extract_octet 24 n 0 (by decide), Nat.pow_zero, Nat.div_one]
  rfl

/-- A flag's weight at a bit. -/
def flagAt (b : Bool) (n : Nat) : Nat := if b then 2 ^ n else 0

theorem flagAt_eq (b : Bool) (n : Nat) : flagAt b n = b.toNat * 2 ^ n := by
  cases b <;> simp [flagAt]

/-- Flags read as a number, bit 0 first. -/
theorem foldr_flags (bits : List Bool) :
    bits.foldr (fun b n => 2 * n + b.toNat) 0
      = ((List.range bits.length).map fun w => flagAt (bits.getD w false) w).sum := by
  induction bits with
  | nil => rfl
  | cons b bits ih =>
    have doubled (l : List Nat) : 2 * (l.map fun w => flagAt (bits.getD w false) w).sum
        = (l.map fun w => flagAt (bits.getD w false) (w + 1)).sum := by
      induction l with
      | nil => rfl
      | cons w l both =>
        rw [List.map_cons, List.sum_cons, Nat.mul_add, both, List.map_cons, List.sum_cons, flagAt_eq, flagAt_eq]
        ring
    rw [List.foldr_cons, ih, doubled, List.length_cons, List.range_succ_eq_map, List.map_cons, List.sum_cons,
      List.map_map, Nat.add_comm, flagAt_eq, Nat.pow_zero, Nat.mul_one]
    rfl

theorem flagOctet_eq (bits : List Bool) :
    flagOctet bits
      = BitVec.ofNat 8 ((List.range bits.length).map fun w => flagAt (bits.getD w false) w).sum := by
  rw [flagOctet, foldr_flags]

section
variable (a b c d e f g h : Bool)

theorem flagOctet_1 : flagOctet [a] = BitVec.ofNat 8 (flagAt a 0) := by
  rw [flagOctet_eq]
  simp [List.range_succ]

theorem flagOctet_2 : flagOctet [a, b] = BitVec.ofNat 8 (flagAt a 0 + flagAt b 1) := by
  rw [flagOctet_eq]
  simp [List.range_succ]

theorem flagOctet_3 : flagOctet [a, b, c] = BitVec.ofNat 8 (flagAt a 0 + flagAt b 1 + flagAt c 2) := by
  rw [flagOctet_eq]
  simp [List.range_succ, Nat.add_assoc]

theorem flagOctet_4 : flagOctet [a, b, c, d]
    = BitVec.ofNat 8 (flagAt a 0 + flagAt b 1 + flagAt c 2 + flagAt d 3) := by
  rw [flagOctet_eq]
  simp [List.range_succ, Nat.add_assoc]

theorem flagOctet_6 : flagOctet [a, b, c, d, e, f]
    = BitVec.ofNat 8 (flagAt a 0 + flagAt b 1 + flagAt c 2 + flagAt d 3 + flagAt e 4 + flagAt f 5) := by
  rw [flagOctet_eq]
  simp [List.range_succ, Nat.add_assoc]

theorem flagOctet_8 : flagOctet [a, b, c, d, e, f, g, h]
    = BitVec.ofNat 8 (flagAt a 0 + flagAt b 1 + flagAt c 2 + flagAt d 3 + flagAt e 4 + flagAt f 5
        + flagAt g 6 + flagAt h 7) := by
  rw [flagOctet_eq]
  simp [List.range_succ, Nat.add_assoc]

end

theorem flagWord_eq (bits : List Bool) :
    flagWord bits = wordOf ((List.range bits.length).map fun w => flagAt (bits.getD w false) w).sum := by
  rw [flagWord, foldr_flags, wordOf]

/-! ### The bodies (R188) -/

theorem SlotView.octets_eq (v : SlotView) :
    v.octets =
      [v.state.code, octetOf (v.maturity.getD 0 / 65536), octetOf (v.maturity.getD 0 / 256),
        octetOf (v.maturity.getD 0), octetOf (v.laidBy.getD 0),
        octetOf (flagAt v.maturity.isSome 0 + flagAt v.own 1 + flagAt v.owed 2 + flagAt v.gap 3),
        octetOf v.solidHeight] := by
  rw [SlotView.octets, octets24_ofNat, flagOctet_4]
  rfl

theorem SiteView.octets_length (v : SiteView) : v.octets.length = 11 := by
  rw [SiteView.octets]
  cases v.fault <;> rfl

theorem SiteView.octets_none {v : SiteView} (fault : v.fault = none) :
    v.octets =
      [v.state.code, octetOf (v.station.getD 0),
        flagOctet [v.restartKind == .warm, v.lag, v.doubt, v.held, false, false]]
        ++ flagWord v.gaps ++ [0, 0, 0, 0, 0] ++ [sendFailCode v.lastFail] := by
  simp only [SiteView.octets, fault]
  rfl

theorem SiteView.octets_some {v : SiteView} {f : DoubleLay} (fault : v.fault = some f) :
    v.octets =
      [v.state.code, octetOf (v.station.getD 0),
        flagOctet [v.restartKind == .warm, v.lag, v.doubt, v.held, true, f.peer.isSome]]
        ++ flagWord v.gaps
        ++ ([octetOf f.slot.wall, octetOf f.slot.course] ++ wordOf f.slot.pos ++ [octetOf (f.peer.getD 0)])
        ++ [sendFailCode v.lastFail] := by
  simp only [SiteView.octets, fault]
  rfl

theorem Placement.report_none {p : Placement} (missing : p.missing = none) :
    p.report =
      outFrame 0x83
        ([p.tag, p.state.code, reasonCode p.reason, octetOf p.yields, octetOf (p.blocking.getD 0),
          flagOctet [p.overrun, false]] ++ [0, 0, 0, 0]) := by
  simp only [Placement.report, missing]
  rfl

theorem Placement.report_some {p : Placement} {slot : Slot} (missing : p.missing = some slot) :
    p.report =
      outFrame 0x83
        ([p.tag, p.state.code, reasonCode p.reason, octetOf p.yields, octetOf (p.blocking.getD 0),
          flagOctet [p.overrun, true]] ++ ([octetOf slot.wall, octetOf slot.course] ++ wordOf slot.pos)) := by
  simp only [Placement.report, missing]
  rfl

theorem State.armstop_eq (s : State) :
    s.armstop = (s.inRestart || s.stop.causes != .empty || s.stop.latch) := by
  have empty : s.stop.causes.isEmpty = (s.stop.causes == .empty) := by
    rw [Bool.eq_iff_iff, CauseSet.isEmpty_iff_eq, beq_iff_eq]
  rw [State.armstop, empty]
  rfl

/-- Settles O38: each report's flags and words as octets, and each code by its table. -/
theorem outgoingFramesFollowTheirLayouts : Obligations.OutgoingFramesFollowTheirLayouts := by
  unfold Obligations.OutgoingFramesFollowTheirLayouts
  intro octet word bit
  have words (n : Nat) : wordOf n = word n := octets16_ofNat n
  have wordsOf (w : Word16) : octets16 w = word w.toNat := octets16_toNat w
  refine ⟨rfl, fun kind code lost => ?answers, fun s => ?_, fun s => ?_,
    fun p => ⟨fun missing => ?_, fun slot missing => ?_⟩, fun s => ?_,
    fun v => ⟨fun fault => ?_, fun f fault => ?_⟩,
    rfl, rfl, rfl, rfl, rfl, rfl, rfl, rfl, rfl, rfl⟩
  case answers =>
    intro frame
    have framed (content : AnswerContent) :
        frame content = outFrame 0x80 ([kind, code.code, octet (bit lost 0)] ++ content.octets) := by
      change Answer.frame _ = _
      rw [Answer.frame, flagOctet_1]
      rfl
    clear_value frame
    refine ⟨framed .plain, fun v => ?_, fun v => ?_⟩
    · rw [framed, AnswerContent.octets, v.octets_eq]
      rfl
    · rw [framed, AnswerContent.octets, outFrame, List.length_append, v.octets_length]
      rfl
  · have causes : Cause.all.map s.stop.causes.has =
        [s.stop.causes.stability, s.stop.causes.claimConflict, s.stop.causes.claimLapse,
          s.stop.causes.stationClash, s.stop.causes.localStop, s.stop.causes.supplyLow] := rfl
    rw [State.stopReport, outFrame, causes, flagOctet_3, flagOctet_6, State.armstop_eq, List.length_append,
      List.length_map, List.length_cons, List.length_cons, List.length_cons, List.length_cons,
      List.length_singleton, Nat.add_right_comm]
    cases s.stop.first with
    | none => rfl
    | some first => cases first <;> rfl
  · rw [State.stabilityReport, flagOctet_8, words, words, words, words, words, wordsOf]
    rfl
  · rw [Placement.report_none missing, flagOctet_2]
    rfl
  · rw [Placement.report_some missing, flagOctet_2, words]
    rfl
  · change octetOf (_ + 1) :: 0x84 :: s.siteView.octets = _
    rw [SiteView.octets_length]
    rfl
  · rw [SiteView.octets_none fault, flagOctet_6, flagWord_eq, words]
    rfl
  · rw [SiteView.octets_some fault, flagOctet_6, flagWord_eq, words, words]
    rfl

end Sys2Proof.Machine

namespace Sys2Proof.Machine

section
variable {s : State}

/-! ### The beginning of a restart (R37, R183) -/

theorem State.cutWalk_calm (calm : ∀ r, s.port.intake = some r → s.walksFor r = false) : s.cutWalk = s := by
  unfold State.cutWalk
  split
  next cls datum threshold intake => exact if_neg (Bool.eq_false_iff.1 (calm _ intake))
  next => rfl
  next => rfl

/-- A SET-CURE whose walk is cut short keeps its values written. -/
theorem State.cutWalk_walks {k : Octet} {datum : Word16} {threshold : BitVec 32}
    (intake : s.port.intake = some (.setCure k datum threshold))
    (walks : s.walksFor (.setCure k datum threshold) = true) :
    s.cutWalk = s.mapClass k.toNat fun c => c.configure datum.toInt threshold.toNat := by
  simp only [State.cutWalk, intake, walks, if_true]

theorem exec_restartBegin (running : s.supply.hold = none) (cause : RestartCause) :
    exec (.restartBegin cause) s = .next
      { s.beginRestart with
        supply := { s.beginRestart.supply with hold := some (RestartHold.nothing.add cause) } } := by
  change execRestartBegin cause s = _
  simp only [execRestartBegin, running]

/-- A further cause joins a restart in progress. -/
theorem exec_restartBegin_held {h : RestartHold} (held : s.supply.hold = some h) (cause : RestartCause) :
    exec (.restartBegin cause) s = .next { s with supply := { s.supply with hold := some (h.add cause) } } := by
  change execRestartBegin cause s = _
  simp only [execRestartBegin, held]

theorem exec_powerOff_held {h : RestartHold} (held : s.supply.hold = some h) :
    exec .powerOff s = .next
      { s.forget with supply := { s.forget.supply with hold := some { h with poweredOff := true } } } := by
  change execPowerOff s = _
  simp only [execPowerOff, held]

/-! ### The end of a restart (R160, R183) -/

theorem exec_restartEnd_cold {h : RestartHold} (held : s.supply.hold = some h) (off : h.poweredOff = true)
    (i : RestartInputs) : exec (.restartEnd i) s = .next (s.coldEnd i) := by
  change execRestartEnd i s = _
  simp only [execRestartEnd, held, off, if_true]

theorem exec_restartEnd_warm {h : RestartHold} (held : s.supply.hold = some h) (on : h.poweredOff = false)
    (i : RestartInputs) : exec (.restartEnd i) s = .next (s.warmEnd i) := by
  change execRestartEnd i s = _
  simp only [execRestartEnd, held, on, Bool.false_eq_true, if_false]

theorem restartCauses_toList (i : RestartInputs) :
    (restartCauses i).toList =
      [.stability] ++ (if i.lstopLow then [.localStop] else []) ++ (if i.supplyBelowWarn then [.supplyLow] else []) := by
  obtain ⟨lstop, warn, reference⟩ := i
  cases lstop <;> cases warn <;> rfl

/-- The stop controller takes the inputs afresh, with each cause present seen after STABILITY. -/
theorem StopControl.afterRestart_eq (t : StopControl) (i : RestartInputs) :
    t.afterRestart i =
      { causes :=
          { stability := true, claimConflict := false, claimLapse := false, stationClash := false
            localStop := i.lstopLow, supplyLow := i.supplyBelowWarn }
        conflictStation := none, latch := true, first := some .restart
        seen := [.stability] ++ (if i.lstopLow then [.localStop] else [])
          ++ (if i.supplyBelowWarn then [.supplyLow] else [])
        lstopStop := i.lstopLow, lstopDiffer := 0, lstopFilter := t.lstopFilter } := by
  rw [StopControl.afterRestart, restartCauses_toList]
  rfl

theorem State.warmEnd_unset {i : RestartInputs} (unset : s.site.config = none) :
    s.warmEnd i = (s.warmKept.takeInputs i).sweep := by
  rw [State.warmEnd, unset]
  rfl

theorem State.warmEnd_set {i : RestartInputs} {c : SiteConfig} (set : s.site.config = some c) :
    s.warmEnd i = (s.warmKept.takeInputs i).beginBlocks.sweep := by
  rw [State.warmEnd, set]
  rfl

end

/-- Settles O36: what the beginning drops, and what each kind of end keeps and takes. -/
theorem restartsBeginAndEnd : Obligations.RestartsBeginAndEnd := by
  refine ⟨fun s => ⟨fun running => ?begins, fun h held => ⟨?_, ?_, ?_⟩⟩,
    fun s h i held off => ?_, fun s h i held on => ?warm⟩
  case begins =>
    intro begun byReset byCut
    rw [exec_restartBegin running, exec_restartBegin running]
    refine ⟨fun calm => ?_, fun k datum threshold intake walks => ?_⟩
    · rw [State.beginRestart, State.cutWalk_calm calm]
      exact ⟨rfl, rfl⟩
    · rw [State.beginRestart, State.cutWalk_walks intake walks]
      exact ⟨rfl, rfl⟩
  · rw [exec_restartBegin_held held]
    rfl
  · rw [exec_restartBegin_held held]
    rfl
  · rw [exec_powerOff_held held]
    rfl
  · rw [exec_restartEnd_cold held off, State.coldEnd, State.takeInputs, StopControl.afterRestart_eq]
    rfl
  case warm =>
    intro kept
    have keeps : s.warmKept.takeInputs i = kept := by
      rw [State.takeInputs, StopControl.afterRestart_eq]
      rfl
    rw [exec_restartEnd_warm held on]
    refine ⟨fun unset => ?_, fun c set => ?_⟩
    · rw [State.warmEnd_unset unset, keeps]
    · rw [State.warmEnd_set set, keeps]
      rfl

end Sys2Proof.Machine

namespace Sys2Proof.Machine

/-! ### The table of the site state (R173) -/

/-- The moves of R173 with their commands. -/
def SiteTable (c : Instr) (s t : State) : Prop :=
  (s.site.state = .unconfigured ∧ t.site.state = .configured ∧ ∃ f, carries c (.setSite f))
    ∨ (s.site.state = .configured ∧ t.site.state = .listening ∧ carries c .start)
    ∨ (s.site.state = .listening ∧ t.site.state = .online ∧ c = .listenTimerExpiry)
    ∨ (s.site.state.joined = true ∧ t.site.state = .leaving ∧ carries c .stop)
    ∨ (s.site.state.joined = true ∧ t.site.state = .configured ∧ carries c .stop)
    ∨ (s.site.state = .leaving ∧ t.site.state = .configured ∧ c = .leavingEnd)
    ∨ (t.site.state = .unconfigured ∧ s.inRestart = true
      ∧ (c = .powerOff ∨ ∃ i, c = .restartEnd i))
    ∨ (t.site.state = .configured ∧ s.inRestart = true ∧ ∃ i, c = .restartEnd i)

/-- The site state stands, or it moves by the table, a site report owed and the head evaluated. -/
def SiteStep (c : Instr) (s t : State) : Prop :=
  t.site.state = s.site.state ∨ t.port.siteOwed = true ∧ t.Settled ∧ SiteTable c s t

/-- Where a command comes upon a state with the same site state, it moves on from that. -/
theorem SiteStep.of_same {c : Instr} {s u t : State} (h : SiteStep c u t)
    (state : u.site.state = s.site.state) (restart : u.inRestart = s.inRestart) : SiteStep c s t := by
  unfold SiteStep SiteTable at h ⊢
  rwa [state, restart] at h

/-- An answer leaves the site and the queue, and a report owed. -/
theorem SiteStep.produce {c : Instr} {s t : State} (h : SiteStep c s t) (k : Octet) (code : AnswerCode)
    (content : AnswerContent) : SiteStep c s (t.produce k code content) := h

/-- The commands at which the site state can move. -/
def SiteCommand (c : Instr) : Prop :=
  (∃ f, c = .setSite f) ∨ c = .start ∨ c = .stop ∨ c = .listenTimerExpiry ∨ c = .leavingEnd
    ∨ c = .powerOff ∨ (∃ i, c = .restartEnd i) ∨ ∃ octets, c = .transferEnd octets

theorem SiteCommand.of_move {c : Instr} {x y : SiteState} (move : SiteMove c x y) : SiteCommand c := by
  have carried {r : Instr} (request : carries c r) (named : SiteCommand r) : SiteCommand c := by
    rcases request with rfl | ⟨octets, rfl, -⟩
    · exact named
    · unfold SiteCommand; simp
  cases move with
  | configured f request => exact carried request (by simp [SiteCommand])
  | listening request => exact carried request (by simp [SiteCommand])
  | online command => simp [SiteCommand, command]
  | leaving request => exact carried request (by simp [SiteCommand])
  | left cause =>
    rcases cause with rfl | request
    · simp [SiteCommand]
    · exact carried request (by simp [SiteCommand])

theorem Atom.keeps_siteState {c : Instr} {s t : State} (h : Atom c s t) (other : ¬ SiteCommand c) :
    t.site.state = s.site.state := by
  cases h with
  | firms own =>
    have site : (s.makeFirm own).site = s.site := s.firm_frame _ _ _ _ .site (by decide)
    exact congrArg SiteControl.state site
  | enters x move => exact absurd (.of_move move) other
  | restarts =>
    have site : s.beginRestart.site = s.site := s.beginRestart_frame .site (by decide)
    exact congrArg SiteControl.state site
  | off hold command => exact absurd (by simp [SiteCommand, command]) other
  | cold i command => exact absurd (by simp [SiteCommand, command]) other
  | warms i command => exact absurd (by simp [SiteCommand, command]) other
  | _ => rfl

theorem Chain.keeps_siteState {c : Instr} {s t : State} (h : Chain c s t) (other : ¬ SiteCommand c) :
    t.site.state = s.site.state :=
  h.keeps (P := fun u => u.site.state = s.site.state)
    (fun _ _ turn same => turn.keeps_siteState.trans same)
    (fun _ _ => Special.keeps (fun _ _ turn same => turn.keeps_siteState.trans same)
      fun _ _ atom same => (atom.keeps_siteState other).trans same) rfl

theorem Turns.keeps_siteState {s t : State} (h : Turns s t) : t.site.state = s.site.state :=
  h.keeps (P := fun u => u.site.state = s.site.state)
    (fun _ _ turn same => turn.keeps_siteState.trans same) rfl

theorem State.siteState_of_frame {l : List Block} {s t : State} (frame : Frame l s t)
    (untouched : Block.site ∉ l) : t.site.state = s.site.state := by
  have site : t.site = s.site := frame .site untouched
  rw [site]

/-! ### A site report owed stays owed -/

section
variable {s : State}

theorem State.siteOwed_of_frame {l : List Block} {t : State} (owed : s.port.siteOwed = true)
    (frame : Frame l s t) (untouched : Block.port ∉ l) : t.port.siteOwed = true := by
  have port : t.port = s.port := frame .port untouched
  rwa [port]

theorem State.siteOwed_causeJoins (owed : s.port.siteOwed = true) (c : Cause) :
    (s.causeJoins c).port.siteOwed = true := by
  unfold State.causeJoins
  split
  · exact owed
  · simp only
    split <;> exact owed

theorem State.siteOwed_causeLeaves (owed : s.port.siteOwed = true) (c : Cause) :
    (s.causeLeaves c).port.siteOwed = true := by
  unfold State.causeLeaves
  split <;> exact owed

theorem State.siteOwed_nameConflict (owed : s.port.siteOwed = true) (station : Nat) :
    (s.nameConflict station).port.siteOwed = true := by
  unfold State.nameConflict
  split <;> exact owed

theorem State.siteOwed_evalHead (owed : s.port.siteOwed = true) : s.evalHead.port.siteOwed = true :=
  State.siteOwed_of_frame owed s.evalHead_frame (by decide)

theorem State.siteOwed_yieldAnnounced (owed : s.port.siteOwed = true) :
    s.yieldAnnounced.port.siteOwed = true :=
  State.siteOwed_of_frame owed s.yieldAnnounced_frame (by decide)

theorem State.siteOwed_conflictTest (owed : s.port.siteOwed = true) :
    s.conflictTest.port.siteOwed = true := by
  unfold State.conflictTest
  split
  · exact State.siteOwed_causeLeaves owed _
  · split
    · exact State.siteOwed_nameConflict owed _
    · exact State.siteOwed_yieldAnnounced
        (State.siteOwed_nameConflict (State.siteOwed_causeJoins owed _) _)

theorem State.siteOwed_reevaluate (owed : s.port.siteOwed = true) : s.reevaluate.port.siteOwed = true := by
  have tested : s.blockingTest.port.siteOwed = true :=
    State.siteOwed_of_frame owed s.blockingTest_frame (by decide)
  have judged : s.blockingTest.conflictTest.port.siteOwed = true := State.siteOwed_conflictTest tested
  exact State.siteOwed_evalHead
    (State.siteOwed_of_frame judged (State.refreshContested_frame _) (by decide))

theorem State.siteOwed_gateLost (owed : s.port.siteOwed = true) : s.gateLost.port.siteOwed = true := by
  unfold State.gateLost
  split
  · exact State.siteOwed_reevaluate (State.siteOwed_yieldAnnounced owed)
  · exact State.siteOwed_evalHead owed

theorem State.siteOwed_dropCause (owed : s.port.siteOwed = true) (c : Cause) :
    (s.dropCause c).port.siteOwed = true := by
  unfold State.dropCause
  split
  · exact State.siteOwed_evalHead (State.siteOwed_causeLeaves owed c)
  · exact owed

theorem State.siteOwed_setStability (owed : s.port.siteOwed = true) (new : Stability) :
    (s.setStability new).port.siteOwed = true := by
  have written : (s.writeStability new).port.siteOwed = true := owed
  have caused : ((s.writeStability new).stabilityCause new).port.siteOwed = true := by
    unfold State.stabilityCause
    split
    · exact State.siteOwed_causeJoins written _
    · exact State.siteOwed_causeLeaves written _
  unfold State.setStability
  split
  · exact owed
  · split
    · exact State.siteOwed_gateLost caused
    · exact State.siteOwed_evalHead caused

end

/-! ### The states in which a command leaves the site -/

theorem State.reevaluate_settled (s : State) : s.reevaluate.Settled := State.evalHead_settled _

section
variable {s : State}

/-- The state in which LEAVING ends before its causes are judged (R180). -/
def State.leftSite (s : State) : State :=
  let t : State := s.enterSite .configured
  { t with
    site := { t.site with leaveDue := none, leaveExpired := false }
    claims := { t.claims with peers := [] }
    walls := t.walls.map WallPlace.offSite
    notice := { t.notice with waitingWalls := [], survey := none }
    tx := { t.tx with bulk := [], current := t.tx.current.bind CurrentFrame.finishing } }

theorem State.endLeaving_eq (s : State) :
    s.endLeaving = (((s.leftSite.dropCause .stationClash).setStability .halted).withDwell none).reevaluate :=
  rfl

/-- LEAVING ends in CONFIGURED (R180). -/
theorem State.endLeaving_ends (s : State) :
    s.endLeaving.site.state = .configured ∧ s.endLeaving.port.siteOwed = true ∧ s.endLeaving.Settled := by
  rw [State.endLeaving_eq]
  refine ⟨?_, ?_, State.reevaluate_settled _⟩
  · have dropped := State.siteState_of_frame (s.leftSite.dropCause_cascade .stationClash) (by decide)
    have halted := State.siteState_of_frame
      ((s.leftSite.dropCause .stationClash).setStability_frame .halted) (by decide)
    have judged := State.siteState_of_frame
      (((s.leftSite.dropCause .stationClash).setStability .halted).withDwell none).reevaluate_cascade
      (by decide)
    exact judged.trans (halted.trans dropped)
  · have owed : s.leftSite.port.siteOwed = true := rfl
    exact State.siteOwed_reevaluate
      (s := ((s.leftSite.dropCause .stationClash).setStability .halted).withDwell none)
      (State.siteOwed_setStability (State.siteOwed_dropCause owed _) _)

/-! ### Requests -/

variable {c : Instr}

theorem State.acceptSite_step {f : SiteFields} (request : carries c (.setSite f))
    (offline : s.site.state.offline = true) (config : SiteConfig) : SiteStep c s (s.acceptSite config) := by
  cases state : s.site.state with
  | unconfigured =>
    rw [State.acceptSite_first state]
    let t := ((s.withConfig config).enterSite .configured).beginBlocks
    exact .inr ⟨State.siteOwed_evalHead (s := t) rfl, State.evalHead_settled t, .inl
      ⟨state, State.siteState_of_frame t.evalHead_frame (by decide), f, request⟩⟩
  | configured =>
    rw [State.acceptSite_again state]
    split
    · exact .inl rfl
    · exact .inl (State.changeRate_turns (s := (s.withConfig config).renumberOwn config.station)).keeps_siteState
  | listening => simp [SiteState.offline, state] at offline
  | online => simp [SiteState.offline, state] at offline
  | leaving => simp [SiteState.offline, state] at offline

theorem State.replySetSite_step {f : SiteFields} (request : carries c (.setSite f)) :
    SiteStep c s (State.replySetSite f s).state := by
  unfold State.replySetSite
  split
  · exact .inl rfl
  · next offline =>
    split
    · exact .inl rfl
    · split
      · exact .inl rfl
      · split
        · exact .inl rfl
        · rw [State.accept_state]
          exact State.acceptSite_step request (by simpa using offline) _

/-- The state with its tables and timers set, as START enters LISTENING (R178). -/
def State.startBegun (s : State) : State :=
  { s with
    claims := { s.claims with peers := [], counter := 0 }
    site := { s.site with listenDue := some (s.after s.cfg.hold) }
    monitor := { s.monitor with windCount := 0, windowDue := some (s.after 250), gusts := [] }
    notice := { s.notice with survey := some { select := .all, queued := false } } }

theorem State.acceptStart_eq (s : State) :
    s.acceptStart = (s.startBegun.enterSite .listening).reevaluate := rfl

theorem State.acceptStart_step (request : carries c .start) (configured : s.site.state = .configured) :
    SiteStep c s s.acceptStart := by
  rw [State.acceptStart_eq]
  exact .inr ⟨State.siteOwed_reevaluate (s := s.startBegun.enterSite .listening) rfl,
    State.reevaluate_settled _, .inr (.inl ⟨configured,
      State.siteState_of_frame (s.startBegun.enterSite .listening).reevaluate_cascade (by decide),
      request⟩)⟩

theorem State.replyStart_step (request : carries c .start) : SiteStep c s s.replyStart.state := by
  unfold State.replyStart
  split
  · exact .inl rfl
  · next configured =>
    split
    · rw [State.accept_state]
      exact State.acceptStart_step request (not_not.mp configured)
    · exact .inl rfl

/-- The state with its placements failed and its timers set, as STOP enters LEAVING (R180). -/
def State.stopBegun (s : State) : State :=
  let t := s.abandonAnnounced.failAll
  { t with site := { t.site with listenDue := none, leaveDue := some (s.after s.cfg.hold) } }

/-- LEAVING as STOP enters it (R180). -/
def State.stopped (s : State) : State := (s.stopBegun.enterSite .leaving).reevaluate

theorem State.acceptStop_eq (s : State) :
    s.acceptStop = if s.stopped.leavingDone then s.stopped.endLeaving else s.stopped := rfl

theorem State.stopped_ends (s : State) :
    s.stopped.site.state = .leaving ∧ s.stopped.port.siteOwed = true ∧ s.stopped.Settled :=
  ⟨State.siteState_of_frame (s.stopBegun.enterSite .leaving).reevaluate_cascade (by decide),
    State.siteOwed_reevaluate (s := s.stopBegun.enterSite .leaving) rfl, State.reevaluate_settled _⟩

theorem State.acceptStop_step (request : carries c .stop) (joined : s.site.state.joined = true) :
    SiteStep c s s.acceptStop := by
  rw [State.acceptStop_eq]
  split
  · obtain ⟨state, report, settled⟩ := s.stopped.endLeaving_ends
    exact .inr ⟨report, settled, .inr (.inr (.inr (.inr (.inl ⟨joined, state, request⟩))))⟩
  · obtain ⟨state, report, settled⟩ := s.stopped_ends
    exact .inr ⟨report, settled, .inr (.inr (.inr (.inl ⟨joined, state, request⟩)))⟩

theorem State.replyStop_step (request : carries c .stop) : SiteStep c s s.replyStop.state := by
  unfold State.replyStop
  split
  · exact .inl rfl
  · next joined =>
    have joined : s.site.state.joined = true := by simpa using joined
    split
    · exact .inl rfl
    · rw [State.accept_state]
      exact State.acceptStop_step request joined

/-- A request carried to its answer moves the site state by its row of the table. -/
theorem State.answerRequest_step {r : Instr} (request : carries c r) (kind : r.requestKind ≠ none) :
    SiteStep c s (s.answerRequest r) := by
  by_cases named : SiteCommand r
  · rcases named with ⟨f, rfl⟩ | rfl | rfl | rfl | rfl | rfl | ⟨i, rfl⟩ | ⟨octets, rfl⟩
    · exact (State.replySetSite_step (s := s.taken (.setSite f)) request).produce _ _ _
    · exact (State.replyStart_step (s := s.taken .start) request).produce _ _ _
    · exact (State.replyStop_step (s := s.taken .stop) request).produce _ _ _
    all_goals exact absurd rfl kind
  · exact .inl ((s.answerRequest_chain (.inl rfl)).keeps_siteState named)

theorem State.takeRequest_step {r : Instr} (request : carries c r) (kind : r.requestKind ≠ none) :
    SiteStep c s (s.takeRequest r) := by
  unfold State.takeRequest
  split
  · exact .inl rfl
  · exact State.answerRequest_step request kind

/-! ### Timers, transfers and the end of a restart -/

theorem State.goOnline_step (ready : s.listenReady = true) : SiteStep .listenTimerExpiry s s.goOnline := by
  simp only [State.listenReady, Bool.and_eq_true, beq_iff_eq] at ready
  obtain ⟨⟨-, listening⟩, -⟩ := ready
  let t : State := ({ s with site := { s.site with listenDue := none } } : State).enterSite .online
  exact .inr ⟨State.siteOwed_evalHead (s := t) rfl, State.evalHead_settled t,
    .inr (.inr (.inl ⟨listening, State.siteState_of_frame t.evalHead_frame (by decide), rfl⟩))⟩

theorem State.endLeaving_step (ready : s.leavingReady = true) : SiteStep .leavingEnd s s.endLeaving := by
  simp only [State.leavingReady, State.leavingDone, Bool.and_eq_true, beq_iff_eq] at ready
  obtain ⟨-, ⟨leaving, -⟩, -⟩ := ready
  obtain ⟨state, report, settled⟩ := s.endLeaving_ends
  exact .inr ⟨report, settled, .inr (.inr (.inr (.inr (.inr (.inl ⟨leaving, state, rfl⟩)))))⟩

theorem decodeRequest_kind {octets : List Octet} {r : Instr} (decoded : decodeRequest octets = some r) :
    r.requestKind ≠ none := by
  cases octets with
  | nil => cases decoded
  | cons code body =>
    obtain ⟨k, -, read⟩ := Option.bind_eq_some_iff.mp decoded
    rw [(requestBody_decodeBody read).1]
    exact Option.some_ne_none k

theorem State.takeFrame_step (octets : List Octet) : SiteStep (.transferEnd octets) s (s.takeFrame octets) := by
  simp only [State.takeFrame]
  split
  · exact .inl rfl
  · split
    · exact .inl rfl
    · split
      · exact .inl rfl
      · split
        · next r decoded =>
          exact State.takeRequest_step (.inr ⟨octets, rfl, decoded⟩) (decodeRequest_kind decoded)
        · exact .inl rfl

theorem exec_transferEnd_step {t : State} {octets : List Octet}
    (h : exec (.transferEnd octets) s = .next t) : SiteStep (.transferEnd octets) s t := by
  change execTransferEnd octets s = _ at h
  obtain rfl := Host.Outcome.next.inj h
  split
  · split
    · exact .inl rfl
    · next x shown =>
      split
      · exact .inl rfl
      · have settled := s.settle_turns shown (transferComplete x.frame octets)
        exact (State.takeFrame_step octets).of_same settled.keeps_siteState
          (State.inRestart_congr settled.keeps_hold)
  · exact .inl rfl

/-- With no placement in the queue, a change of the map leaves all but the map and the walls. -/
structure Bare (s t : State) : Prop where
  queue : t.admission.queue = []
  port : t.port = s.port

theorem Bare.settled {s t : State} (bare : Bare s t) : t.Settled :=
  .inr (.inl (by rw [State.headIndex, bare.queue]; rfl))

theorem State.mapChanged_of_empty (empty : s.admission.queue = []) : s.mapChanged = s := by
  have announced : s.announcedIndex = none := by rw [State.announcedIndex, empty]; rfl
  have head : s.headIndex = none := by rw [State.headIndex, empty]; rfl
  rw [State.mapChanged, announced]
  exact State.evalHead_of_no_head head

theorem State.retire_bare (w k : Nat) (empty : s.admission.queue = []) : Bare s (State.retire w k s) := by
  induction k generalizing s with
  | zero => exact ⟨empty, rfl⟩
  | succ k ih =>
    unfold State.retire
    split
    · exact ⟨empty, rfl⟩
    · simp only
      split
      · rw [State.mapChanged_of_empty (s := s.raiseHeight w _) empty]
        obtain ⟨queue, port⟩ := ih (s := s.raiseHeight w _) empty
        exact ⟨queue, port⟩
      · exact ⟨empty, rfl⟩

theorem State.checkSlot_bare (slot : Slot) (empty : s.admission.queue = []) : Bare s (s.checkSlot slot) := by
  unfold State.checkSlot
  split
  · exact State.retire_bare _ _ empty
  · exact ⟨empty, rfl⟩

theorem State.recordChanged_bare (r : SlotRecord) (empty : s.admission.queue = []) :
    Bare s (s.recordChanged r) := by
  obtain ⟨queue, port⟩ := State.checkSlot_bare (s := s.putRecord r) r.slot empty
  simp only [State.recordChanged, State.mapChanged_of_empty (s := s.putRecord r) empty]
  split
  · exact ⟨queue, port⟩
  · exact ⟨empty, rfl⟩

theorem State.walkSlot_bare (slot : Slot) (empty : s.admission.queue = []) : Bare s (s.walkSlot slot) := by
  unfold State.walkSlot
  split
  · exact ⟨empty, rfl⟩
  · split
    · exact ⟨empty, rfl⟩
    · simp only
      split
      · exact State.recordChanged_bare _ empty
      · exact ⟨empty, rfl⟩

theorem State.sweep_bare (empty : s.admission.queue = []) : Bare s s.sweep := by
  have walked (l : List Slot) : Bare s (l.foldl State.walkSlot s) := by
    induction l generalizing s with
    | nil => exact ⟨empty, rfl⟩
    | cons slot l ih =>
      obtain ⟨queue, port⟩ := s.walkSlot_bare slot empty
      obtain ⟨rest, same⟩ := ih queue
      exact ⟨rest, same.trans port⟩
  exact walked _

theorem State.warmEnd_step {h : RestartHold} (held : s.supply.hold = some h) (i : RestartInputs) :
    SiteStep (.restartEnd i) s (s.warmEnd i) := by
  have restart : s.inRestart = true := by rw [State.inRestart, held]; rfl
  cases set : s.site.config with
  | none =>
    rw [State.warmEnd_unset set]
    let t := s.warmKept.takeInputs i
    have bare := State.sweep_bare (s := t) rfl
    have state : t.site.state = .unconfigured := by
      change (if s.site.config.isSome then SiteState.configured else .unconfigured) = _
      rw [set]; rfl
    exact .inr ⟨congrArg ArmPort.siteOwed bare.port, bare.settled,
      .inr (.inr (.inr (.inr (.inr (.inr (.inl
        ⟨(State.siteState_of_frame t.sweep_frame (by decide)).trans state, restart, .inr ⟨i, rfl⟩⟩))))))⟩
  | some c =>
    rw [State.warmEnd_set set]
    let t := (s.warmKept.takeInputs i).beginBlocks
    have bare := State.sweep_bare (s := t) rfl
    have state : t.site.state = .configured := by
      change (if s.site.config.isSome then SiteState.configured else .unconfigured) = _
      rw [set]; rfl
    exact .inr ⟨congrArg ArmPort.siteOwed bare.port, bare.settled,
      .inr (.inr (.inr (.inr (.inr (.inr (.inr
        ⟨(State.siteState_of_frame t.sweep_frame (by decide)).trans state, restart, i, rfl⟩))))))⟩

theorem exec_restartEnd_step {t : State} {i : RestartInputs} (h : exec (.restartEnd i) s = .next t) :
    SiteStep (.restartEnd i) s t := by
  cases held : s.supply.hold with
  | none =>
    change execRestartEnd i s = _ at h
    simp only [execRestartEnd, held, Host.Outcome.next.injEq] at h
    exact h ▸ .inl rfl
  | some hold =>
    have restart : s.inRestart = true := by rw [State.inRestart, held]; rfl
    cases off : hold.poweredOff with
    | true =>
      rw [exec_restartEnd_cold held off, Host.Outcome.next.injEq] at h
      exact h ▸ .inr ⟨rfl, .inr (.inl rfl),
        .inr (.inr (.inr (.inr (.inr (.inr (.inl ⟨rfl, restart, .inr ⟨i, rfl⟩⟩))))))⟩
    | false =>
      rw [exec_restartEnd_warm held off, Host.Outcome.next.injEq] at h
      exact h ▸ State.warmEnd_step held i

theorem exec_powerOff_step {t : State} (h : exec .powerOff s = .next t) : SiteStep .powerOff s t := by
  cases held : s.supply.hold with
  | none =>
    change execPowerOff s = _ at h
    simp only [execPowerOff, held, Host.Outcome.next.injEq] at h
    exact h ▸ .inl rfl
  | some hold =>
    have restart : s.inRestart = true := by rw [State.inRestart, held]; rfl
    rw [exec_powerOff_held held, Host.Outcome.next.injEq] at h
    exact h ▸ .inr ⟨rfl, .inr (.inl rfl),
      .inr (.inr (.inr (.inr (.inr (.inr (.inl ⟨rfl, restart, .inl rfl⟩))))))⟩

/-- A request that the port does not take leaves the site, and any other steps by its reply. -/
theorem State.onRequest_step {r : Instr} {k : RequestKind} {run : State → Reply} {t : State}
    (reply : SiteStep c s (run (s.taken r)).state) (h : s.onRequest r k run = .next t) :
    SiteStep c s t := by
  obtain rfl := Host.Outcome.next.inj h
  split
  · exact .inl rfl
  · split
    · exact reply.produce _ _ _
    · exact .inl rfl

theorem exec_step {t : State} (h : exec c s = .next t) : SiteStep c s t := by
  by_cases named : SiteCommand c
  · rcases named with ⟨f, rfl⟩ | rfl | rfl | rfl | rfl | rfl | ⟨i, rfl⟩ | ⟨octets, rfl⟩
    · exact State.onRequest_step (State.replySetSite_step (s := s.taken (.setSite f)) (.inl rfl)) h
    · exact State.onRequest_step (State.replyStart_step (s := s.taken .start) (.inl rfl)) h
    · exact State.onRequest_step (State.replyStop_step (s := s.taken .stop) (.inl rfl)) h
    · change execListenTimerExpiry s = _ at h
      obtain rfl := Host.Outcome.next.inj h
      split
      · next ready => exact State.goOnline_step ready
      · exact .inl rfl
    · change execLeavingEnd s = _ at h
      obtain rfl := Host.Outcome.next.inj h
      split
      · next ready => exact State.endLeaving_step ready
      · exact .inl rfl
    · exact exec_powerOff_step h
    · exact exec_restartEnd_step h
    · exact exec_transferEnd_step h
  · exact .inl ((exec_chain h).keeps_siteState named)

end

/-- Settles O48: each command that can move the site moves it by its row and evaluates the head last. -/
theorem siteStateMovesByTheTable : Obligations.SiteStateMovesByTheTable := by
  intro c s t h moved
  rcases exec_step h with stands | ⟨owed, settled, table⟩
  · exact absurd stands moved
  · exact ⟨owed, settled.evalHead, table⟩

end Sys2Proof.Machine
